-- ==== Sys2Proof/Word.lean ====
section
/-! DEFINITION. The word types of the spec (00_scope.md R10, R11): every value is an unsigned integer of a fixed
width, and u32 operators are modulo 2^32. -/

namespace Sys2Proof

/-- u8 (R10). -/
abbrev Byte := BitVec 8
/-- u16 (R10). -/
abbrev Half := BitVec 16
/-- u32 (R10). -/
abbrev Word := BitVec 32
/-- u64 (R10). -/
abbrev DWord := BitVec 64

end Sys2Proof
end

