-- ==== Sys2Proof/Config.lean ====
section
/-! DEFINITION. The implementation parameters of 00_scope.md R8 and the free values of the model. A parameter the
spec gives a value is a constant with that value; a parameter it leaves OPEN is an uninterpreted constant. -/

namespace Sys2Proof

/-- The thirteen opcode parameters of R57, one named field each. Every assignment of bytes is a value of this
type; `Opcodes.distinct` (WellFormed.lean) is R57's condition on them. -/
structure Opcodes where
  getVersion : Byte
  getHelp : Byte
  getChipId : Byte
  getRdpStatus : Byte
  jumpToAddress : Byte
  eraseFlash : Byte
  memoryWrite : Byte
  changeRdpLevel : Byte
  jumpToApp : Byte
  extWriteProtect : Byte
  memRead : Byte
  sectorStatus : Byte
  otpRead : Byte
deriving DecidableEq, Repr

/-- What one ChanRead returns (20_memory.md R43): the next byte of the receive stream, or `timeout`. -/
inductive RxDraw where
  | byte (b : Byte)
  | timeout
deriving DecidableEq, Repr, Inhabited

namespace Config

/-- `CRC_POLY` (R8). -/
def crcPoly : Word := 0x04C11DB7#32
/-- `CRC_INIT` (R8). -/
def crcInit : Word := 0xFFFFFFFF#32
/-- `ACK_OK` (R8). -/
def ackOk : Byte := 0xCD#8
/-- `CHUNK_SIZE` (R8). -/
def chunkSize : Byte := 128#8
/-- `MASS_ERASE` (R8): the sentinel start sector. -/
def massErase : Byte := 0xFF#8
/-- `RDP_READ_ERROR` (R8). -/
def rdpReadError : Byte := 0xEE#8

/-- The OPEN opcode values of R57: any thirteen pairwise distinct bytes are the images of 1 to 13 under some
permutation of the byte space, so an uninterpreted permutation stands for every assignment R57 allows and for no
other. DESIGN CHOICE, log entry 2; safe. -/
opaque opcodePermutation : Equiv.Perm Byte

/-- The OPEN opcode values (R8, R57): uninterpreted, and pairwise distinct. -/
def opcodes : Opcodes where
  getVersion := opcodePermutation 1
  getHelp := opcodePermutation 2
  getChipId := opcodePermutation 3
  getRdpStatus := opcodePermutation 4
  jumpToAddress := opcodePermutation 5
  eraseFlash := opcodePermutation 6
  memoryWrite := opcodePermutation 7
  changeRdpLevel := opcodePermutation 8
  jumpToApp := opcodePermutation 9
  extWriteProtect := opcodePermutation 10
  memRead := opcodePermutation 11
  sectorStatus := opcodePermutation 12
  otpRead := opcodePermutation 13

/-- The free value of R43: what the `n`-th ChanRead for which State lists no draw returns. Nothing constrains it
(I3, I5, I16). DESIGN CHOICE, log entry 3; safe. -/
opaque deviceDraw : Nat → RxDraw

/-- `READ_TIMEOUT` (R8, OPEN). Its expiry is the draw `RxDraw.timeout`; no rule depends on the number (R6).
Log entry 6. -/
opaque readTimeout : Nat

/-- `PACE_DELAY` (R8, OPEN). Its end is a step of its own; no rule depends on the number (R6, R126, R173).
Log entry 6. -/
opaque paceDelay : Nat

end Config
end Sys2Proof
end

