-- ==== Sys2Proof/Syntax.lean ====
section
/-! DEFINITION. The two instruction sets of 00_scope.md R2 (wire commands and requests) and the acknowledgment
header, as one inductive: one constructor per row of spec/opcode_table.json. -/

namespace Sys2Proof

/-- The closed enumeration of BL's commands (00_scope.md R15), in selector order (30_encoding.md R57, R58). -/
inductive Command where
  | getVersion
  | getHelp
  | getChipId
  | getReadProtectionStatus
  | jumpToAddress
  | eraseFlash
  | memoryWrite
  | changeReadProtectionLevel
  | jumpToApplication
deriving DecidableEq, Repr

/-- The four declared-but-unimplemented operations (R57). -/
inductive ReservedOp where
  | extendedWriteProtect
  | memoryRead
  | sectorStatusRead
  | otpRead
deriving DecidableEq, Repr

/-- The fields of a request other than its code (30_encoding.md R66). -/
structure Operands where
  cmd : Byte
  a32 : Word
  len64 : DWord
  p0 : Byte
  p1 : Byte
  data : List Byte
deriving DecidableEq, Repr

/-- A request record (R66). -/
structure Request where
  code : Byte
  ops : Operands
deriving DecidableEq, Repr

/-- One constructor per row of the opcode table.

A request keeps its whole operand record, the fields its code ignores among them, because the register `req` holds
the whole record (10_state.md R19, 30_encoding.md R66). A wire command has the operands R68 gives it. -/
inductive Instr where
  -- requests (R67)
  | crcInit (o : Operands)
  | crcUpdate (o : Operands)
  | crcRead (o : Operands)
  | crcBlock (o : Operands)
  | codecSplit32 (o : Operands)
  | codecJoin32 (o : Operands)
  | codecJoin16 (o : Operands)
  | encode (o : Operands)
  | decode (o : Operands)
  | execute (o : Operands)
  | sendImage (o : Operands)
  | cancel (o : Operands)
  | status (o : Operands)
  | reservedRequest (code : Byte) (o : Operands)
  -- wire commands (R57, R68)
  | getVersion
  | getHelp
  | getChipId
  | getReadProtectionStatus
  | jumpToAddress (a : Word)
  | eraseFlash (s k : Byte)
  | memoryWrite (a : Word) (d : List Byte)
  | changeReadProtectionLevel (v : Byte)
  | jumpToApplication
  -- declared but unimplemented opcodes (R57, R59)
  | extendedWriteProtect
  | memoryRead
  | sectorStatusRead
  | otpRead
  -- the acknowledgment header's status byte (R60, R61)
  | ack
  | nack (st : Byte)
deriving DecidableEq, Repr

end Sys2Proof
end

