-- ==== Sys2Proof/Machine/State.lean ====
section
/-! DEFINITION. The state of the machine: the block's registers (10_state.md), and beside them what the spec keeps
outside the block's registers but a run needs (10_state.md R33, 20_memory.md R35): the two streams of the channel, the
image source, the response side of the request port and the inputs still to come. Plain data throughout. -/

namespace Sys2Proof.Machine
open Sys2Proof

/-- The sequencer states of 10_state.md R18. The codes 8 to 15 are no constructor: they are never held (R18, I14;
DEDUCED, log entry 17). -/
inductive Fsm where
  | idle
  | encoding
  | transmitting
  | awaitingAck
  | awaitingPayload
  | decoded
  | aborted
  | pacing
deriving DecidableEq, Repr

/-- The errors of 60_exceptions.md R144. The codes 7 to 15 are no constructor: they are never written (R144, I14;
DEDUCED, log entry 17). -/
inductive ErrCode where
  | none
  | notAcknowledged
  | channelTimeout
  | invalidParameter
  | unknownResponseCode
  | cancelled
  | sourceShort
deriving DecidableEq, Repr

/-- The check that failed in an INVALID_PARAMETER (60_exceptions.md R145). -/
inductive Reason where
  | badCode
  | badSelector
  | badLevel
  | badChunkLen
  | badDataLen
  | badRange
deriving DecidableEq, Repr

/-- The label of a GetHelp byte (43_response_decoder.md R108, R110). -/
inductive Label where
  | command (c : Command)
  | reservedOp
  | raw
deriving DecidableEq, Repr

/-- A ResponsePayload (43_response_decoder.md R108). `eraseZero` is one value with two meanings that a model must not
split (R114, 90_conflicts.md C2). -/
inductive Payload where
  | version (vendor major minor patch : Byte)
  | help (entries : List (Byte × Label))
  | chipId (id : Half)
  | rdpLevel (level : Byte)
  | rdpReadError
  | addressValid
  | addressInvalid (code : Byte)
  | eraseZero
  | eraseSuccessful
  | writeFailed
  | writeSuccess
  | levelChanged
  | levelNotChanged
  | jumped
  | noApplication
  | unknown (raw : List Byte)
deriving DecidableEq, Repr

/-- A value the request port returns (10_state.md R21): a u32, a u16, a byte sequence, the bit of CANCEL
(45_session.md R139), a ResponsePayload (R108) or a TransferResult (44_flash_transfer.md R130). -/
inductive Result where
  | word (v : Word)
  | half (v : Half)
  | bytes (bs : List Byte)
  | bit (b : Bool)
  | payload (p : Payload)
  | transfer (allChunksOk : Bool) (bytesSent : DWord) (unknownSeen : Bool)
deriving DecidableEq, Repr

/-- What the request port delivers when a request ends (30_encoding.md R69). -/
structure Response where
  err : ErrCode
  errInfo : Half
  result : Option Result
deriving DecidableEq, Repr

/-- What can reach the machine from outside between two of its own steps (log entry 1).

* `request`: the host issues a request (45_session.md R133).
* `reset`: the reset input (70_reset_and_hazards.md R162).
* `arrive`: draws of the receive stream become known: device bytes, or a timeout (20_memory.md R43, R168).
* `resetInputBuffer`: the host empties the receive side (R166 step 3, R168).
* `positionImage`: the host positions the image source (R166 step 4).
* `hostWrite`: the host writes to the channel by other means (R169).
* `pass`: nothing; the block moves. -/
inductive Input where
  | request (q : Request)
  | reset
  | arrive (ds : List RxDraw)
  | resetInputBuffer
  | positionImage (bs : List Byte)
  | hostWrite (bs : List Byte)
  | pass
deriving DecidableEq, Repr

/-- The block's registers, under the names of 10_state.md. `xs_chunk` and `STATUS` have no storage: the one is
hardwired (`State.xsChunk`), the other composed (`State.statusWord`). -/
structure Regs where
  /-- `fsm` (R18). -/
  fsm : Fsm
  /-- `req` (R19); `none` is the spec's "no value" (R32). -/
  req : Option Request
  /-- `err` (R20). -/
  err : ErrCode
  /-- `err_info` (R20). -/
  errInfo : Half
  /-- `result` (R21); `none` is "no value", both before any request ended and after one that returns none. -/
  result : Option Result
  /-- `crc_acc` (R22). -/
  crcAcc : Word
  /-- `txbuf` (R23). -/
  txbuf : List Byte
  /-- `tx_idx` (R23). -/
  txIdx : Byte
  /-- `ack_status` (R24). -/
  ackStatus : Option Byte
  /-- `ack_len` (R24). -/
  ackLen : Option Byte
  /-- `rxbuf` (R25). -/
  rxbuf : List Byte
  /-- `rx_idx` (R25). -/
  rxIdx : Byte
  /-- `xs_base` (R27). -/
  xsBase : Word
  /-- `xs_total` (R27). -/
  xsTotal : DWord
  /-- `xs_sent` (R27, R28). -/
  xsSent : DWord
  /-- `xs_all_ok` (R27). -/
  xsAllOk : Bool
  /-- `xs_active` (R27). -/
  xsActive : Bool
  /-- `xs_cur_len` (R27). -/
  xsCurLen : Byte
  /-- `xs_unknown` (R27). -/
  xsUnknown : Bool
  /-- `cancel_latch` (R30). -/
  cancelLatch : Bool
deriving DecidableEq, Repr

/-- What stands around the registers. -/
structure Env where
  /-- The transmit stream: every byte written to it, in order (20_memory.md R35, R47). -/
  chanTx : List Byte
  /-- The receive stream: the draws the next ChanReads return, unread bytes included (R33, R35, R43). -/
  chanRx : List RxDraw
  /-- What the image source has still to deliver (R33, R44). -/
  imageSource : List Byte
  /-- The responses delivered on the request port, oldest first (30_encoding.md R69). -/
  responses : List Response
  /-- The model's own field: the inputs from outside, in the order in which they come (log entry 1). -/
  inbox : List Input
  /-- The model's own field: the counter of the free draws of `Config.deviceDraw` (log entry 3). -/
  drawIdx : Nat
  /-- The model's own field: the OPC_* parameters, an argument of the machine that no step changes (R8, R57, R163;
  log entry 2). -/
  opcodes : Opcodes
deriving DecidableEq, Repr

/-- The machine's state. -/
structure State extends Regs, Env
deriving DecidableEq, Repr

/-- A register that holds no value until a rule writes it (10_state.md R32). -/
inductive NamedReg where
  | req
  | ackLen
deriving DecidableEq, Repr

/-- Why the machine stops. Every one of these is safe: the invariant of Sys2Proof/Safety.lean rules out the states in
which they arise, and the spec asks a model to fault there or says that a correct run never gets there. -/
inductive Fault where
  /-- Raised by `readHeld`, and so by the end of an exchange that finds `req` or `ack_len` without a value: "a model that finds such a read
  must fault rather than supply a value" (R32, D30, I13). Safe. -/
  | unwrittenRead (r : NamedReg)
  /-- Raised by the end of an exchange when `req` holds a request that uses no channel: no state of the machine's runs
  has a busy sequencer then (R132, R141). Safe. -/
  | noCommandInFlight
  /-- Raised by the chunk step when `xs_cur_len` is no length of a chunk: an ImageRead asks for 1 to 128 bytes (R44,
  R122). Safe. -/
  | imageReadLength
deriving DecidableEq, Repr

/-- Why the machine has no meaning for an instruction. -/
inductive Refusal where
  /-- Raised by no arm of this model: every row of the opcode table has its meaning. Safe. -/
  | notModelled (mnemonic : String)
deriving DecidableEq, Repr

/-- The outcome of a meaning. -/
abbrev Out := Host.Outcome State Fault Refusal

/-- The registers after reset (70_reset_and_hazards.md R163). -/
def Regs.reset : Regs where
  fsm := .idle
  req := none
  err := .none
  errInfo := 0
  result := none
  crcAcc := Config.crcInit
  txbuf := []
  txIdx := 0
  ackStatus := none
  ackLen := none
  rxbuf := []
  rxIdx := 0
  xsBase := 0
  xsTotal := 0
  xsSent := 0
  xsAllOk := false
  xsActive := false
  xsCurLen := 0
  xsUnknown := false
  cancelLatch := false

/-- The machine right after power-on: the registers as R163 says, nothing on any stream, nothing delivered, no input
known yet (DESIGN CHOICE for the streams, log entry 4), the opcodes uninterpreted. -/
def State.reset : State where
  toRegs := Regs.reset
  chanTx := []
  chanRx := []
  imageSource := []
  responses := []
  inbox := []
  drawIdx := 0
  opcodes := Config.opcodes

end Sys2Proof.Machine
end

