-- ==== Sys2Proof/Machine/Flags.lean ====
section
/-! DEFINITION. The codes of the sequencer state, of the errors and of the INVALID_PARAMETER reasons, the hardwired
chunk size, and the composed STATUS word (10_state.md R18, R27, R31; 60_exceptions.md R144 to R146). -/

namespace Sys2Proof.Machine
open Sys2Proof

/-- The 4-bit code of a sequencer state (R18). -/
def Fsm.code : Fsm → BitVec 4
  | .idle => 0
  | .encoding => 1
  | .transmitting => 2
  | .awaitingAck => 3
  | .awaitingPayload => 4
  | .decoded => 5
  | .aborted => 6
  | .pacing => 7

/-- A request is in progress in every state but Idle and Aborted (45_session.md R132, R141). -/
def Fsm.busy : Fsm → Bool
  | .idle | .aborted => false
  | .encoding | .transmitting | .awaitingAck | .awaitingPayload | .decoded | .pacing => true

/-- The 4-bit code of an error (R144). -/
def ErrCode.code : ErrCode → BitVec 4
  | .none => 0
  | .notAcknowledged => 1
  | .channelTimeout => 2
  | .invalidParameter => 3
  | .unknownResponseCode => 4
  | .cancelled => 5
  | .sourceShort => 6

/-- The errors that leave the sequencer in Aborted (R146). -/
def ErrCode.fatal : ErrCode → Bool
  | .notAcknowledged | .channelTimeout | .cancelled | .sourceShort => true
  | .none | .invalidParameter | .unknownResponseCode => false

/-- The `err_info` of a reason (R145). -/
def Reason.code : Reason → Half
  | .badCode => 1
  | .badSelector => 2
  | .badLevel => 3
  | .badChunkLen => 4
  | .badDataLen => 5
  | .badRange => 6

/-- `xs_chunk`: hardwired to CHUNK_SIZE, without storage (R27; log entry 23). -/
def State.xsChunk (_ : State) : Byte := Config.chunkSize

/-- One bit of STATUS at position `k`. -/
def statusBit (b : Bool) (k : Nat) : Word := (BitVec.ofBool b).setWidth 32 <<< k

/-- STATUS (R31): FSM 3:0, ERR 7:4, XS_ACTIVE 8, XS_ALL_OK 9, CANCEL 10, XS_UNKNOWN 11, and 31:12 read as 0. -/
def State.statusWord (s : State) : Word :=
  s.fsm.code.setWidth 32 ||| s.err.code.setWidth 32 <<< 4 ||| statusBit s.xsActive 8 ||| statusBit s.xsAllOk 9
    ||| statusBit s.cancelLatch 10 ||| statusBit s.xsUnknown 11

end Sys2Proof.Machine
end

