-- ==== Sys2Proof/Machine/Bits.lean ====
section
/-! DEFINITION. The combinational units: the CRC step and function (40_crc.md R72, R74) and the byte-order codec
(41_codec.md R81 to R83). They have no state. -/

namespace Sys2Proof.Machine
open Sys2Proof

/-- One of the 32 iterations of R72: test bit 31, shift left by 1, and XOR with the polynomial if it was set. -/
def crcShift (a : Word) : Word :=
  if a.getLsbD 31 then (a <<< 1) ^^^ Config.crcPoly else a <<< 1

/-- `n` iterations of `crcShift`. -/
def crcShifts : Nat → Word → Word
  | 0, a => a
  | n + 1, a => crcShifts n (crcShift a)

/-- `crc_step(acc, b)` (R72): the byte goes into bits 7:0 once, then 32 iterations. -/
def crcStep (acc : Word) (b : Byte) : Word := crcShifts 32 (acc ^^^ b.setWidth 32)

/-- `crc32(s)` (R74): no final XOR, no reflection. -/
def crc32 (s : List Byte) : Word := s.foldl crcStep Config.crcInit

/-- `byte(v, i) = (v >> (8*(i-1))) & 0xFF` for `i` from 1 to 4 (R81). -/
def byteOf (v : Word) (i : Nat) : Byte := ((v >>> (8 * (i - 1))) &&& 0xFF#32).setWidth 8

/-- `split32(v)`, low byte first (R81). -/
def split32 (v : Word) : List Byte := [byteOf v 1, byteOf v 2, byteOf v 3, byteOf v 4]

/-- `join32([b1, b2, b3, b4])` (R82). -/
def join32 (b1 b2 b3 b4 : Byte) : Word :=
  b1.setWidth 32 ||| b2.setWidth 32 <<< 8 ||| b3.setWidth 32 <<< 16 ||| b4.setWidth 32 <<< 24

/-- `join16([b0, b1])` (R83). -/
def join16 (b0 b1 : Byte) : Half := b1.setWidth 16 <<< 8 ||| b0.setWidth 16

end Sys2Proof.Machine
end

