-- ==== Sys2Proof/WellFormed.lean ====
section
/-! DEFINITION. What a well-formed instruction is, and when an assignment of opcodes is one the spec allows. The
operand checks of the rules (a bad selector, a bad data length, a bad range) are no part of this: a request that
fails one of them is a well-formed request that ends with INVALID_PARAMETER. -/

namespace Sys2Proof

/-- The thirteen request codes in use (30_encoding.md R67). -/
def requestCodes : List Byte :=
  [0x01, 0x02, 0x03, 0x04, 0x10, 0x11, 0x12, 0x20, 0x30, 0x40, 0x50, 0x60, 0x70]

/-- A code R67 reserves: every code it does not list. -/
def isReservedCode (c : Byte) : Bool := !requestCodes.contains c

/-- The length of a MemoryWrite chunk: `1 ≤ n ≤ 128` (42_frame_encoder.md R92). -/
def chunkLengthOk (n : Nat) : Bool := 1 ≤ n && n ≤ 128

/-- The levels that may be requested: 0 and 1 (42_frame_encoder.md R100). -/
def levelOk (v : Byte) : Bool := v == 0 || v == 1

/-- An instruction that some encoding of the spec stands for: a reserved request has a reserved code (R67), a
MemoryWrite frame carries 1 to 128 data bytes (R55, R92), a ChangeReadProtectionLevel frame a level of 0 or 1 (R55,
R100), and a not-acknowledged status is no 0xCD (R61). -/
def Instr.wellFormed : Instr → Bool
  | .reservedRequest code _ => isReservedCode code
  | .memoryWrite _ d => chunkLengthOk d.length
  | .changeReadProtectionLevel v => levelOk v
  | .nack st => st != Config.ackOk
  | .crcInit _ | .crcUpdate _ | .crcRead _ | .crcBlock _ | .codecSplit32 _ | .codecJoin32 _ | .codecJoin16 _
  | .encode _ | .decode _ | .execute _ | .sendImage _ | .cancel _ | .status _ => true
  | .getVersion | .getHelp | .getChipId | .getReadProtectionStatus | .jumpToAddress _ | .eraseFlash _ _
  | .jumpToApplication => true
  | .extendedWriteProtect | .memoryRead | .sectorStatusRead | .otpRead => true
  | .ack => true

/-- The thirteen values in a list, implemented commands first. -/
def Opcodes.toList (p : Opcodes) : List Byte :=
  [p.getVersion, p.getHelp, p.getChipId, p.getRdpStatus, p.jumpToAddress, p.eraseFlash, p.memoryWrite,
   p.changeRdpLevel, p.jumpToApp, p.extWriteProtect, p.memRead, p.sectorStatus, p.otpRead]

/-- R57: the nine implemented opcodes are pairwise distinct and distinct from the four reserved ones; R8, D5 and R166
ask the same of all thirteen. -/
abbrev Opcodes.distinct (p : Opcodes) : Prop := p.toList.Nodup

end Sys2Proof
end

