-- ==== Sys2Proof/Decode.lean ====
section
/-! DEFINITION. The encodings of 30_encoding.md: the request port (R66, R67), the wire frames (R53 to R57) and the
acknowledgment status byte (R60, R61). Decoding is total and rejects by name; the encoder follows it. -/

namespace Sys2Proof
open Sys2Proof.Machine

/-! ### Selectors and opcodes -/

/-- The command a selector names (R58): 1 to 9 in the order of R57's table; 0 and 10 to 255 name none. -/
def Command.ofSelector (b : Byte) : Option Command :=
  match b.toNat with
  | 1 => some .getVersion
  | 2 => some .getHelp
  | 3 => some .getChipId
  | 4 => some .getReadProtectionStatus
  | 5 => some .jumpToAddress
  | 6 => some .eraseFlash
  | 7 => some .memoryWrite
  | 8 => some .changeReadProtectionLevel
  | 9 => some .jumpToApplication
  | _ => none

/-- The selector of a command (R57, first column). -/
def Command.selector : Command → Byte
  | .getVersion => 1
  | .getHelp => 2
  | .getChipId => 3
  | .getReadProtectionStatus => 4
  | .jumpToAddress => 5
  | .eraseFlash => 6
  | .memoryWrite => 7
  | .changeReadProtectionLevel => 8
  | .jumpToApplication => 9

/-- The nine commands, in selector order. -/
def Command.all : List Command :=
  [.getVersion, .getHelp, .getChipId, .getReadProtectionStatus, .jumpToAddress, .eraseFlash, .memoryWrite,
   .changeReadProtectionLevel, .jumpToApplication]

/-- The four reserved operations. -/
def ReservedOp.all : List ReservedOp := [.extendedWriteProtect, .memoryRead, .sectorStatusRead, .otpRead]

/-- The opcode parameter of a command (R57). -/
def Opcodes.ofCommand (p : Opcodes) : Command → Byte
  | .getVersion => p.getVersion
  | .getHelp => p.getHelp
  | .getChipId => p.getChipId
  | .getReadProtectionStatus => p.getRdpStatus
  | .jumpToAddress => p.jumpToAddress
  | .eraseFlash => p.eraseFlash
  | .memoryWrite => p.memoryWrite
  | .changeReadProtectionLevel => p.changeRdpLevel
  | .jumpToApplication => p.jumpToApp

/-- The opcode parameter of a reserved operation (R57). -/
def Opcodes.ofReserved (p : Opcodes) : ReservedOp → Byte
  | .extendedWriteProtect => p.extWriteProtect
  | .memoryRead => p.memRead
  | .sectorStatusRead => p.sectorStatus
  | .otpRead => p.otpRead

/-- The command whose opcode parameter equals `x`. -/
def Opcodes.findCommand (p : Opcodes) (x : Byte) : Option Command := Command.all.find? (p.ofCommand · == x)

/-- The reserved operation whose opcode parameter equals `x`. -/
def Opcodes.findReserved (p : Opcodes) (x : Byte) : Option ReservedOp := ReservedOp.all.find? (p.ofReserved · == x)

/-! ### Decoding -/

/-- Why bytes are no instruction. -/
inductive DecodeError where
  /-- A frame needs a length byte, an opcode byte and four CRC bytes (R53). -/
  | frameTooShort
  /-- The first byte plus one is not the number of bytes (R54). -/
  | lengthByteWrong
  /-- The trailer is not the CRC of the bytes before it (R53, R76). -/
  | crcWrong
  /-- The opcode byte is none of the thirteen parameters (R57). -/
  | unknownOpcode (b : Byte)
  /-- The payload does not have the layout of the command's format (R55). -/
  | payloadLayoutWrong (c : Command)
deriving DecidableEq, Repr

/-- The request port (R66, R67): total, since every code R67 does not list is a reserved request. -/
def decodeRequest (q : Request) : Instr :=
  match q.code.toNat with
  | 0x01 => .crcInit q.ops
  | 0x02 => .crcUpdate q.ops
  | 0x03 => .crcRead q.ops
  | 0x04 => .crcBlock q.ops
  | 0x10 => .codecSplit32 q.ops
  | 0x11 => .codecJoin32 q.ops
  | 0x12 => .codecJoin16 q.ops
  | 0x20 => .encode q.ops
  | 0x30 => .decode q.ops
  | 0x40 => .execute q.ops
  | 0x50 => .sendImage q.ops
  | 0x60 => .cancel q.ops
  | 0x70 => .status q.ops
  | _ => .reservedRequest q.code q.ops

/-- The status byte of an acknowledgment header (R60, R61): `0xCD` is acknowledged, every other byte is not. -/
def decodeHeader (b : Byte) : Instr := if b = Config.ackOk then .ack else .nack b

/-- The payload of a command's frame (R55). -/
def decodePayloadLayout (c : Command) (pl : List Byte) : Except DecodeError Instr :=
  match c, pl with
  | .getVersion, [] => .ok .getVersion
  | .getHelp, [] => .ok .getHelp
  | .getChipId, [] => .ok .getChipId
  | .getReadProtectionStatus, [] => .ok .getReadProtectionStatus
  | .jumpToApplication, [] => .ok .jumpToApplication
  | .jumpToAddress, [a1, a2, a3, a4] => .ok (.jumpToAddress (join32 a1 a2 a3 a4))
  | .eraseFlash, [s, k] => .ok (.eraseFlash s k)
  | .changeReadProtectionLevel, [v] =>
    if levelOk v then .ok (.changeReadProtectionLevel v) else .error (.payloadLayoutWrong c)
  | .memoryWrite, a1 :: a2 :: a3 :: a4 :: n :: d =>
    if n.toNat = d.length ∧ chunkLengthOk d.length then .ok (.memoryWrite (join32 a1 a2 a3 a4) d)
    else .error (.payloadLayoutWrong c)
  | _, _ => .error (.payloadLayoutWrong c)

/-- The instruction of a reserved operation. -/
def ReservedOp.instr : ReservedOp → Instr
  | .extendedWriteProtect => .extendedWriteProtect
  | .memoryRead => .memoryRead
  | .sectorStatusRead => .sectorStatusRead
  | .otpRead => .otpRead

/-- A wire frame, as a reader of the wire takes it apart (R53, R54, R55): the length byte gives the number of bytes,
the last four are the CRC of the others, the opcode fixes the payload layout. The source gives a reserved opcode no
payload layout, so any payload is taken there (DESIGN CHOICE, log entry 18). -/
def decodeFrame (p : Opcodes) (bs : List Byte) : Except DecodeError Instr :=
  match bs with
  | len :: opc :: rest =>
    if rest.length < 4 then .error .frameTooShort
    else if bs.length ≠ len.toNat + 1 then .error .lengthByteWrong
    else
      let pl := rest.take (rest.length - 4)
      if rest.drop (rest.length - 4) ≠ split32 (crc32 (len :: opc :: pl)) then .error .crcWrong
      else
        match p.findCommand opc with
        | some c => decodePayloadLayout c pl
        | none =>
          match p.findReserved opc with
          | some r => .ok r.instr
          | none => .error (.unknownOpcode opc)
  | _ => .error .frameTooShort

/-- An encoded instruction: what stands on the request port, on the wire, or in the first byte of a response. -/
inductive Encoded where
  | request (q : Request)
  | frame (bytes : List Byte)
  | header (status : Byte)
deriving DecidableEq, Repr

/-- Decoding, total on any request, any bytes and any status. -/
def decode (p : Opcodes) : Encoded → Except DecodeError Instr
  | .request q => .ok (decodeRequest q)
  | .frame bs => decodeFrame p bs
  | .header b => .ok (decodeHeader b)

/-! ### Encoding -/

/-- The bytes the CRC of a frame covers (R53, R89): length byte, opcode, payload. -/
def frameBody (opc : Byte) (pl : List Byte) : List Byte := BitVec.ofNat 8 (pl.length + 5) :: opc :: pl

/-- A frame (R53, R89): body, then the CRC, low byte first. -/
def frameBytes (opc : Byte) (pl : List Byte) : List Byte :=
  frameBody opc pl ++ split32 (crc32 (frameBody opc pl))

/-- The payload of a MemoryWrite frame (R55 `FW`, R99). -/
def memoryWritePayload (a : Word) (d : List Byte) : List Byte := split32 a ++ [BitVec.ofNat 8 d.length] ++ d

/-- The request record of a request instruction. -/
def encodeRequest : Instr → Option Request
  | .crcInit o => some ⟨0x01, o⟩
  | .crcUpdate o => some ⟨0x02, o⟩
  | .crcRead o => some ⟨0x03, o⟩
  | .crcBlock o => some ⟨0x04, o⟩
  | .codecSplit32 o => some ⟨0x10, o⟩
  | .codecJoin32 o => some ⟨0x11, o⟩
  | .codecJoin16 o => some ⟨0x12, o⟩
  | .encode o => some ⟨0x20, o⟩
  | .decode o => some ⟨0x30, o⟩
  | .execute o => some ⟨0x40, o⟩
  | .sendImage o => some ⟨0x50, o⟩
  | .cancel o => some ⟨0x60, o⟩
  | .status o => some ⟨0x70, o⟩
  | .reservedRequest c o => some ⟨c, o⟩
  | .getVersion | .getHelp | .getChipId | .getReadProtectionStatus | .jumpToAddress _ | .eraseFlash _ _
  | .memoryWrite _ _ | .changeReadProtectionLevel _ | .jumpToApplication | .extendedWriteProtect | .memoryRead
  | .sectorStatusRead | .otpRead | .ack | .nack _ => none

/-- The frame of a wire command (R55), from its opcode parameter and its payload. -/
def encodeFrame (p : Opcodes) : Instr → Option (List Byte)
  | .getVersion => some (frameBytes p.getVersion [])
  | .getHelp => some (frameBytes p.getHelp [])
  | .getChipId => some (frameBytes p.getChipId [])
  | .getReadProtectionStatus => some (frameBytes p.getRdpStatus [])
  | .jumpToAddress a => some (frameBytes p.jumpToAddress (split32 a))
  | .eraseFlash s k => some (frameBytes p.eraseFlash [s, k])
  | .memoryWrite a d => some (frameBytes p.memoryWrite (memoryWritePayload a d))
  | .changeReadProtectionLevel v => some (frameBytes p.changeRdpLevel [v])
  | .jumpToApplication => some (frameBytes p.jumpToApp [])
  | .crcInit _ | .crcUpdate _ | .crcRead _ | .crcBlock _ | .codecSplit32 _ | .codecJoin32 _ | .codecJoin16 _
  | .encode _ | .decode _ | .execute _ | .sendImage _ | .cancel _ | .status _ | .reservedRequest _ _
  | .extendedWriteProtect | .memoryRead | .sectorStatusRead | .otpRead | .ack | .nack _ => none

/-- The encoding of an instruction: a request record, a frame, or a status byte. The four declared but unimplemented
operations have none (R57 "never sent", R59). -/
def encode (p : Opcodes) : Instr → Option Encoded
  | .ack => some (.header Config.ackOk)
  | .nack st => some (.header st)
  | i =>
    match encodeRequest i with
    | some q => some (.request q)
    | none => (encodeFrame p i).map .frame

/-! ### The words of the opcode table -/

/-- A request from the bits of one number: the fields of R66 in that rule's order, the code in the low eight bits
(`code` 7:0, `cmd` 15:8, `a32` 47:16, `len64` 111:48, `p0` 119:112, `p1` 127:120), then the bytes of `data`. The spec
gives the record no bit layout: DESIGN CHOICE, log entry 12. -/
def requestOfWord (nbits w : Nat) : Request where
  code := BitVec.ofNat 8 w
  ops :=
    { cmd := BitVec.ofNat 8 (w >>> 8)
      a32 := BitVec.ofNat 32 (w >>> 16)
      len64 := BitVec.ofNat 64 (w >>> 48)
      p0 := BitVec.ofNat 8 (w >>> 112)
      p1 := BitVec.ofNat 8 (w >>> 120)
      data := (List.range ((nbits - 128) / 8)).map fun k => BitVec.ofNat 8 (w >>> (128 + 8 * k)) }

/-- Is the table's word the acknowledgment status byte? The table has one row of fixed value 0xCD, the response
header; the request code 0xCD is one of the reserved ones (log entry 12). -/
def isHeaderWord (w : Nat) : Bool := w % 256 == 0xCD

/-- The instruction a word of the opcode table stands for: the header byte 0xCD, else a request. -/
def decodeTableWord (nbits w : Nat) : Option Instr :=
  let w := w % 2 ^ nbits
  if isHeaderWord w then some (decodeHeader Config.ackOk) else some (decodeRequest (requestOfWord nbits w))

end Sys2Proof
end

