-- ==== Sys2Proof/Machine/Operands.lean ====
section
/-! DEFINITION. The operand forms of the commands: the checks that run before a frame is built (42_frame_encoder.md
R91, R92, R100; 44_flash_transfer.md R120) and the payload each command makes of its operands (30_encoding.md R55, R64,
R68). -/

namespace Sys2Proof.Machine
open Sys2Proof

/-- The operand check of a command (R91): the reason it fails, if it does. Only ChangeReadProtectionLevel (R100) and
MemoryWrite (R92, R99) check anything; addresses, sectors and counts are sent as they are (R36, R97, R98). -/
def operandFault (c : Command) (o : Operands) : Option Reason :=
  match c with
  | .changeReadProtectionLevel => if levelOk o.p0 then none else some .badLevel
  | .memoryWrite => if chunkLengthOk o.data.length then none else some .badChunkLen
  | .getVersion | .getHelp | .getChipId | .getReadProtectionStatus | .jumpToAddress | .eraseFlash
  | .jumpToApplication => none

/-- The payload of a command's frame (R55, R64; R93 to R101). -/
def framePayload (c : Command) (o : Operands) : List Byte :=
  match c with
  | .getVersion | .getHelp | .getChipId | .getReadProtectionStatus | .jumpToApplication => []
  | .jumpToAddress => split32 o.a32
  | .eraseFlash => [o.p0, o.p1]
  | .memoryWrite => memoryWritePayload o.a32 o.data
  | .changeReadProtectionLevel => [o.p0]

/-- The range check of a transfer: is `B0 + L ≤ 2^32`, as an exact sum (R120)? -/
def transferRangeOk (b0 : Word) (l : DWord) : Bool := b0.toNat + l.toNat ≤ 2 ^ 32

/-- An operand record whose fields are all zero, for the commands that use none of them. -/
def Operands.zero : Operands := ⟨0, 0, 0, 0, 0, []⟩

end Sys2Proof.Machine
end

