-- ==== Sys2Proof/Machine/Ops.lean ====
section
/-! DEFINITION. The named operations over registers and streams that every meaning is made of: the stream primitives
(20_memory.md R42 to R44), the acceptance of a request (45_session.md R133), the end of a request with or without an
error (60_exceptions.md R147), building a frame (42_frame_encoder.md R89). There is no return from an error (R152). -/

namespace Sys2Proof.Machine
open Sys2Proof

/-! ### Registers that may hold no value -/

/-- The read of a register whose reset value is "none": its value goes to `k`. "A model that finds such a read" before a
rule wrote the register "must fault rather than supply a value" (10_state.md R32; 92_eei_decisions.md D30;
93_implementation_defined.md I13). -/
def readHeld {α : Type} (r : NamedReg) (v : Option α) (k : α → Out) : Out :=
  match v with
  | some x => k x
  | none => .fault (.unwrittenRead r)

/-! ### Streams -/

/-- `ChanWrite(b)` (R42): completes, with no result and no failure (log entry 21). -/
def chanWrite (b : Byte) (s : State) : State := { s with chanTx := s.chanTx ++ [b] }

/-- `ChanRead()` (R43): the next draw of the receive stream, which it consumes. Where State lists none, the draw is
the free value `Config.deviceDraw` (log entry 3). -/
def chanRead (s : State) : RxDraw × State :=
  match s.chanRx with
  | d :: ds => (d, { s with chanRx := ds })
  | [] => (Config.deviceDraw s.drawIdx, { s with drawIdx := s.drawIdx + 1 })

/-- `ImageRead(n)` (R44): the next `n` bytes of the image source, or the fewer it has; the source advances by the
count returned (log entry 19). -/
def imageRead (n : Nat) (s : State) : List Byte × State :=
  (s.imageSource.take n, { s with imageSource := s.imageSource.drop n })

/-! ### The end of a request -/

/-- The end of a request (R20, R21, R69, R147): write `err`, `err_info` and `result`, leave the sequencer in Aborted
if the error is fatal (R146) and in Idle otherwise, and deliver the response in the same step. -/
def endRequest (e : ErrCode) (info : Half) (r : Option Result) (s : State) : State :=
  { s with
    err := e
    errInfo := info
    result := r
    fsm := if e.fatal then .aborted else .idle
    responses := s.responses ++ [⟨e, info, r⟩] }

/-- The end of a request without an error. -/
def complete (r : Option Result) (s : State) : State := endRequest .none 0 r s

/-- `raise InvalidParameter(reason)` (R147): no partial result. -/
def invalidParameter (r : Reason) (s : State) : State := endRequest .invalidParameter r.code none s

/-- `xfer_abort(E, info)` (44_flash_transfer.md R128): the transfer ends with its partial result. -/
def xferAbort (e : ErrCode) (info : Half) (s : State) : State :=
  endRequest e info (some (.transfer false s.xsSent s.xsUnknown))
    { s with xsAllOk := false, xsActive := false, cancelLatch := false }

/-- An error raised by `read_ack` or `read_payload`: in a transfer it is caught and becomes `xfer_abort` with the same
information (R119); otherwise it ends the request with no result (R147). -/
def raiseInExchange (e : ErrCode) (info : Half) (s : State) : State :=
  if s.xsActive then xferAbort e info s else endRequest e info none s

/-! ### Acceptance -/

/-- What acceptance does whatever the request is (R133, 10_state.md R26): leave Aborted, clear `err` and `err_info`,
clear the buffers and the header registers. -/
def clearExchange (s : State) : State :=
  { s with
    fsm := if s.fsm = .aborted then .idle else s.fsm
    err := .none
    errInfo := 0
    txbuf := []
    txIdx := 0
    ackStatus := none
    ackLen := none
    rxbuf := []
    rxIdx := 0 }

/-- `accept(q)` (R133) up to the rule of the request's code: `req` is written, and SEND_IMAGE and EXECUTE clear the
cancellation latch (10_state.md R30). -/
def accept (q : Request) (s : State) : State :=
  let t := { clearExchange s with req := some q }
  if q.code = 0x50#8 ∨ q.code = 0x40#8 then { t with cancelLatch := false } else t

/-- Issuing a request other than CANCEL and STATUS: its rule runs after acceptance; while another request is in
progress the port does not take it and nothing changes (R133, I12: "held, not an error"; log entry 7). -/
def issue (q : Request) (rule : State → Out) (s : State) : Out :=
  if s.fsm.busy then .next s else rule (accept q s)

/-! ### Frames -/

/-- `build_frame(opc, pl)` (R89): writes `crc_acc`, `txbuf` and `tx_idx` and nothing else. -/
def buildFrame (opc : Byte) (pl : List Byte) (s : State) : State :=
  let body := frameBody opc pl
  let acc := body.foldl crcStep Config.crcInit
  { s with crcAcc := acc, txbuf := body ++ split32 acc, txIdx := 0 }

/-- The per-command encoder (R93 to R101), on operands that passed their check. -/
def buildCommandFrame (c : Command) (o : Operands) (s : State) : State :=
  buildFrame (s.opcodes.ofCommand c) (framePayload c o) s

/-- The start of an exchange's transmit half (R135): the header registers are cleared to no value when an exchange
starts (10_state.md R24; log entry 14). -/
def beginTransmit (s : State) : State :=
  { s with fsm := .transmitting, ackStatus := none, ackLen := none }

end Sys2Proof.Machine
end

