-- ==== Sys2Proof/Machine/Codec.lean ====
section
/-! DEFINITION. The Byte-Order Codec's requests (41_codec.md R86 to R88). -/

namespace Sys2Proof.Machine
open Sys2Proof

/-- `CODEC.SPLIT32` (R86). -/
def execCodecSplit32 (o : Operands) (s : State) : Out :=
  issue ⟨0x10, o⟩ (fun t => .next (complete (some (.bytes (split32 o.a32))) t)) s

/-- `CODEC.JOIN32` (R87): `data` must be exactly four bytes. -/
def execCodecJoin32 (o : Operands) (s : State) : Out :=
  issue ⟨0x11, o⟩
    (fun t =>
      match o.data with
      | [b1, b2, b3, b4] => .next (complete (some (.word (join32 b1 b2 b3 b4))) t)
      | _ => .next (invalidParameter .badDataLen t)) s

/-- `CODEC.JOIN16` (R88): `data` must be exactly two bytes. -/
def execCodecJoin16 (o : Operands) (s : State) : Out :=
  issue ⟨0x12, o⟩
    (fun t =>
      match o.data with
      | [b0, b1] => .next (complete (some (.half (join16 b0 b1))) t)
      | _ => .next (invalidParameter .badDataLen t)) s

end Sys2Proof.Machine
end

