-- ==== Sys2Proof/Machine/Crc.lean ====
section
/-! DEFINITION. The CRC Engine's requests (40_crc.md R77 to R80). -/

namespace Sys2Proof.Machine
open Sys2Proof

/-- `CRC.INIT` (R77). -/
def execCrcInit (o : Operands) (s : State) : Out :=
  issue ⟨0x01, o⟩ (fun t => .next (complete none { t with crcAcc := Config.crcInit })) s

/-- `CRC.UPDATE` (R78): one CRC step with the byte `p0`. -/
def execCrcUpdate (o : Operands) (s : State) : Out :=
  issue ⟨0x02, o⟩ (fun t => .next (complete none { t with crcAcc := crcStep t.crcAcc o.p0 })) s

/-- `CRC.READ` (R79). -/
def execCrcRead (o : Operands) (s : State) : Out :=
  issue ⟨0x03, o⟩ (fun t => .next (complete (some (.word t.crcAcc)) t)) s

/-- `CRC.BLOCK` (R80): the whole function over `data`, whatever `crc_acc` held. -/
def execCrcBlock (o : Operands) (s : State) : Out :=
  issue ⟨0x04, o⟩
    (fun t => .next (complete (some (.word (crc32 o.data))) { t with crcAcc := crc32 o.data })) s

end Sys2Proof.Machine
end

