-- ==== Sys2Proof/Machine/FrameEncoder.lean ====
section
/-! DEFINITION. The Frame Encoder's request (42_frame_encoder.md R102) and the encoder as a step of an exchange. -/

namespace Sys2Proof.Machine
open Sys2Proof

/-- The per-command encoder with its operand check (R91): a failed check builds no frame and leaves `crc_acc`. -/
def encodeCommand (c : Command) (o : Operands) (s : State) : State :=
  match operandFault c o with
  | some r => invalidParameter r s
  | none => buildCommandFrame c o s

/-- `ENCODE` (R102): check the selector, then the operands; build the frame; return its bytes. The states Encoding and
Idle follow each other in this one step (T3), and nothing is written to the channel. -/
def execEncode (o : Operands) (s : State) : Out :=
  issue ⟨0x20, o⟩
    (fun t =>
      match Command.ofSelector o.cmd with
      | none => .next (invalidParameter .badSelector t)
      | some c =>
        match operandFault c o with
        | some r => .next (invalidParameter r t)
        | none =>
          let u := buildCommandFrame c o t
          .next (complete (some (.bytes u.txbuf)) u)) s

end Sys2Proof.Machine
end

