-- ==== Sys2Proof/Machine/ResponseDecoder.lean ====
section
/-! DEFINITION. The Response Decoder (43_response_decoder.md R103 to R118): the nine payload decoders, the status byte
of the header, the end of a single-shot exchange, and the DECODE request. In a decoder `l` is `ack_len` and `p` is
`rxbuf`; the two agree when an exchange ends (R104), and a decoder whose payload does not have the bytes it indexes
answers `unknown` (log entry 25). -/

namespace Sys2Proof.Machine
open Sys2Proof

/-- GetVersion (R109). -/
def decodeGetVersion (l : Byte) (p : List Byte) : Payload :=
  if l ≠ 4 then .unknown p else
  match p with
  | [a, b, c, d] => .version a b c d
  | _ => .unknown p

/-- `label(x)` (R110): the command whose opcode parameter equals `x`, else ReservedOp, else Raw. -/
def labelOf (ops : Opcodes) (x : Byte) : Label :=
  match ops.findCommand x with
  | some c => .command c
  | none => if (ops.findReserved x).isSome then .reservedOp else .raw

/-- GetHelp (R110): any length, every byte labelled, in order. -/
def decodeGetHelp (ops : Opcodes) (p : List Byte) : Payload := .help (p.map fun x => (x, labelOf ops x))

/-- GetChipId (R111). -/
def decodeGetChipId (l : Byte) (p : List Byte) : Payload :=
  if l ≠ 2 then .unknown p else
  match p with
  | [b0, b1] => .chipId (join16 b0 b1)
  | _ => .unknown p

/-- GetReadProtectionStatus (R112). -/
def decodeGetReadProtectionStatus (l : Byte) (p : List Byte) : Payload :=
  if l ≠ 1 then .unknown p else
  match p with
  | [b] =>
    if b = 0 ∨ b = 1 ∨ b = 2 then .rdpLevel b
    else if b = Config.rdpReadError then .rdpReadError
    else .unknown p
  | _ => .unknown p

/-- JumpToAddress (R113): 1 is valid, every other value invalid. -/
def decodeJumpToAddress (l : Byte) (p : List Byte) : Payload :=
  if l ≠ 1 then .unknown p else
  match p with
  | [b] => if b = 1 then .addressValid else .addressInvalid b
  | _ => .unknown p

/-- EraseFlash (R114). -/
def decodeEraseFlash (l : Byte) (p : List Byte) : Payload :=
  if l ≠ 1 then .unknown p else
  match p with
  | [b] => if b = 0 then .eraseZero else if b = 1 then .eraseSuccessful else .unknown p
  | _ => .unknown p

/-- MemoryWrite (R115). -/
def decodeMemoryWrite (l : Byte) (p : List Byte) : Payload :=
  if l ≠ 1 then .unknown p else
  match p with
  | [b] => if b = 0 then .writeFailed else if b = 1 then .writeSuccess else .unknown p
  | _ => .unknown p

/-- ChangeReadProtectionLevel (R116). -/
def decodeChangeReadProtectionLevel (l : Byte) (p : List Byte) : Payload :=
  if l ≠ 1 then .unknown p else
  match p with
  | [b] => if b = 1 then .levelChanged else if b = 0 then .levelNotChanged else .unknown p
  | _ => .unknown p

/-- JumpToApplication (R117). -/
def decodeJumpToApplication (l : Byte) (p : List Byte) : Payload :=
  if l ≠ 1 then .unknown p else
  match p with
  | [b] => if b = 1 then .jumped else if b = 0 then .noApplication else .unknown p
  | _ => .unknown p

/-- The per-command decoder (R108). -/
def decodeResponse (ops : Opcodes) (c : Command) (l : Byte) (p : List Byte) : Payload :=
  match c with
  | .getVersion => decodeGetVersion l p
  | .getHelp => decodeGetHelp ops p
  | .getChipId => decodeGetChipId l p
  | .getReadProtectionStatus => decodeGetReadProtectionStatus l p
  | .jumpToAddress => decodeJumpToAddress l p
  | .eraseFlash => decodeEraseFlash l p
  | .memoryWrite => decodeMemoryWrite l p
  | .changeReadProtectionLevel => decodeChangeReadProtectionLevel l p
  | .jumpToApplication => decodeJumpToApplication l p

/-- `(ack_len << 8) | (rxbuf[0] if ack_len > 0 else 0)` (R118, R137, R144). -/
def unknownInfo (l : Byte) (p : List Byte) : Half :=
  l.setWidth 16 <<< 8 ||| if l = 0 then 0 else (p.headD 0).setWidth 16

/-- The end of a request that returns the payload `p` (R118, R137): an `unknown` is reported, and is not fatal
(R106). -/
def deliverPayload (l : Byte) (p : Payload) (s : State) : State :=
  match p with
  | .unknown _ => endRequest .unknownResponseCode (unknownInfo l s.rxbuf) (some (.payload p)) s
  | _ => complete (some (.payload p)) s

/-- The end of a single-shot exchange (T21): decode with the command's decoder, deliver, go to Idle. -/
def finishSingle (c : Command) (s : State) : Out :=
  readHeld .ackLen s.ackLen fun l => .next (deliverPayload l (decodeResponse s.opcodes c l s.rxbuf) s)

/-- A status byte of an acknowledgment header (R103). Where the block waits for one, it is written to `ack_status`, and
any value but 0xCD ends the exchange; anywhere else the byte stays unread in the channel (10_state.md R33; log
entry 11). -/
def readStatus (b : Byte) (s : State) : State :=
  if s.fsm = .awaitingAck ∧ s.ackStatus = none then
    let t := { s with ackStatus := some b }
    if b = Config.ackOk then t else raiseInExchange .notAcknowledged (b.setWidth 16) t
  else { s with chanRx := s.chanRx ++ [.byte b] }

/-- ACK: the status byte 0xCD (R60, R61, R103, T15). -/
def execAck (s : State) : Out := .next (readStatus Config.ackOk s)

/-- NACK: any other status byte (R61, R103, T16). -/
def execNack (st : Byte) (s : State) : Out := .next (readStatus st s)

/-- `DECODE` (R118): the selector check, then wait for a header (T10). Nothing is written to the channel. -/
def execDecode (o : Operands) (s : State) : Out :=
  issue ⟨0x30, o⟩
    (fun t =>
      match Command.ofSelector o.cmd with
      | none => .next (invalidParameter .badSelector t)
      | some _ => .next { t with fsm := .awaitingAck, ackStatus := none, ackLen := none, rxbuf := [] }) s

end Sys2Proof.Machine
end

