-- ==== Sys2Proof/Machine/Transfer.lean ====
section
/-! DEFINITION. The Flash Transfer Engine (44_flash_transfer.md R119 to R131). -/

namespace Sys2Proof.Machine
open Sys2Proof

/-- `xfer_start(B0, L)` after its range check (R120). -/
def xferStart (b0 : Word) (l : DWord) (s : State) : State :=
  { s with
    xsBase := b0
    xsTotal := l
    xsSent := 0
    xsAllOk := true
    xsUnknown := false
    xsCurLen := 0
    xsActive := true }

/-- `xfer_end()` (R127). -/
def xferEnd (s : State) : State :=
  endRequest (if s.xsUnknown then .unknownResponseCode else .none) 0
    (some (.transfer s.xsAllOk s.xsSent s.xsUnknown)) { s with xsActive := false, cancelLatch := false }

/-- The length of the next chunk: `min(128, xs_total - xs_sent)` (R122). -/
def chunkLength (s : State) : Nat := min s.xsChunk.toNat (s.xsTotal.toNat - s.xsSent.toNat)

/-- `xfer_chunk()` up to its ImageRead (R122): Encoding, with the chunk's length in `xs_cur_len`. These statements belong
to the step that leads up to the read: the acceptance, or the end of a pacing interval (45_session.md R134). -/
def chunkBegin (s : State) : State :=
  { s with fsm := .encoding, xsCurLen := BitVec.ofNat 8 (chunkLength s) }

/-- The head of the transfer loop (R119): with bytes left, the cancellation check (R121) and then the next chunk; with
none left, the end of the transfer. -/
def xferNext (s : State) : State :=
  if s.xsSent.toNat < s.xsTotal.toNat then
    if s.cancelLatch then xferAbort .cancelled 0 s else chunkBegin s
  else xferEnd s

/-- `send_image(B0, L)` (R119) up to the first image read: the range check, the session, the loop's head. With `L = 0`
it ends the request (R129). -/
def sendImage (b0 : Word) (l : DWord) (s : State) : State :=
  if transferRangeOk b0 l then xferNext (xferStart b0 l s) else invalidParameter .badRange s

/-- `xfer_update(s)` (R123, R124): AND-accumulate the status, record an unknown one, advance the counts. -/
def xferUpdate (p : Payload) (s : State) : State :=
  { s with
    xsUnknown := match p with
      | .unknown _ => true
      | _ => s.xsUnknown
    xsAllOk := s.xsAllOk && p == .writeSuccess
    xsSent := s.xsSent + s.xsCurLen.setWidth 64
    xsBase := s.xsBase + s.xsCurLen.setWidth 32 }

/-- The end of a chunk's exchange (T22): decode the write status (R115), update the session, enter Pacing (R126). -/
def finishChunk (s : State) : Out :=
  readHeld .ackLen s.ackLen fun l => .next { xferUpdate (decodeMemoryWrite l s.rxbuf) s with fsm := .pacing }

/-- The end of one pacing interval (R126, T23 to T25). -/
def pacingEnd (s : State) : State := xferNext s

/-- `SEND_IMAGE` (R119): base address `a32`, length `len64`. -/
def execSendImage (o : Operands) (s : State) : Out :=
  issue ⟨0x50, o⟩ (fun t => .next (sendImage o.a32 o.len64 t)) s

end Sys2Proof.Machine
end

