-- ==== Sys2Proof/Machine/Session.lean ====
section
/-! DEFINITION. The sequencer (45_session.md): EXECUTE, CANCEL, STATUS, the refusal of reserved codes, and the steps of
an exchange that carry no instruction of their own: writing a frame byte (R135), reading the second header byte (R103)
and the payload (R104). -/

namespace Sys2Proof.Machine
open Sys2Proof

/-- `EXECUTE` (R137): the selector check; MemoryWrite is SEND_IMAGE with the same base and length; any other command
is checked, encoded, and goes on to Transmitting in the same step (T5). -/
def execExecute (o : Operands) (s : State) : Out :=
  issue ⟨0x40, o⟩
    (fun t =>
      match Command.ofSelector o.cmd with
      | none => .next (invalidParameter .badSelector t)
      | some .memoryWrite => .next (sendImage o.a32 o.len64 t)
      | some c =>
        match operandFault c o with
        | some r => .next (invalidParameter r t)
        | none => .next (beginTransmit (buildCommandFrame c o t))) s

/-- `CANCEL` (R139), accepted in every state: it sets the latch while a transfer is active, and its response goes out
directly, without the registers. -/
def execCancel (s : State) : Out :=
  .next { s with
    cancelLatch := s.cancelLatch || s.xsActive
    responses := s.responses ++ [⟨.none, 0, some (.bit s.xsActive)⟩] }

/-- `STATUS` (R140), accepted in every state: it returns the composed word and writes no register. -/
def execStatus (s : State) : Out :=
  .next { s with responses := s.responses ++ [⟨.none, 0, some (.word s.statusWord)⟩] }

/-- A reserved request code (R67, R133): refused with BAD_CODE. -/
def execReservedRequest (code : Byte) (o : Operands) (s : State) : Out :=
  issue ⟨code, o⟩ (fun t => .next (invalidParameter .badCode t)) s

/-! ### The steps of an exchange -/

/-- The command whose exchange a request runs (R19): that of a DECODE or EXECUTE is its selector's, SEND_IMAGE's is
MemoryWrite; no other request runs one. -/
def exchangeCommand (q : Request) : Option Command :=
  if q.code = 0x50#8 then some .memoryWrite
  else if q.code = 0x30#8 ∨ q.code = 0x40#8 then Command.ofSelector q.ops.cmd
  else none

/-- What the state Decoded does for a command (T21, T22): a chunk of a transfer updates the session, every other
exchange delivers its payload. -/
def finishCommand (c : Command) (s : State) : Out :=
  match c with
  | .memoryWrite => if s.xsActive then finishChunk s else finishSingle .memoryWrite s
  | .getVersion | .getHelp | .getChipId | .getReadProtectionStatus | .jumpToAddress | .eraseFlash
  | .changeReadProtectionLevel | .jumpToApplication => finishSingle c s

/-- The last payload byte has been read (R104, T20): Decoded, and the decoder of the request in progress in the same
step. -/
def payloadComplete (s : State) : Out :=
  readHeld .req s.req fun q =>
    match exchangeCommand q with
    | some c => finishCommand c { s with fsm := .decoded }
    | none => .fault .noCommandInFlight

/-- One iteration of `transmit()` (R135, T13, T14): write `txbuf[tx_idx]`; after the last byte, wait for the header. -/
def transmitByte (s : State) : State :=
  match s.txbuf[s.txIdx.toNat]? with
  | some b =>
    let t := chanWrite b { s with txIdx := s.txIdx + 1 }
    if t.txIdx.toNat < t.txbuf.length then t else { t with fsm := .awaitingAck }
  | none => { s with fsm := .awaitingAck }

/-- The second header byte (R103, T17) and the start of `read_payload` (R104). -/
def readAckLen (s : State) : Out :=
  match chanRead s with
  | (.timeout, t) => .next (raiseInExchange .channelTimeout 1 t)
  | (.byte b, t) =>
    let u := { t with ackLen := some b, fsm := .awaitingPayload, rxbuf := [], rxIdx := 0 }
    if b = 0 then payloadComplete u else .next u

/-- One iteration of `read_payload()` (R104, T19, T20). -/
def readPayloadByte (s : State) : Out :=
  readHeld .ackLen s.ackLen fun l =>
    if s.rxIdx.toNat < l.toNat then
      match chanRead s with
      | (.timeout, t) => .next (raiseInExchange .channelTimeout (2 + s.rxIdx.setWidth 16) t)
      | (.byte b, t) =>
        let u := { t with rxbuf := t.rxbuf ++ [b], rxIdx := t.rxIdx + 1 }
        if u.rxIdx.toNat < l.toNat then .next u else payloadComplete u
    else payloadComplete s

end Sys2Proof.Machine
end

