-- ==== Sys2Proof/Machine/Wire.lean ====
section
/-! DEFINITION. The wire commands (30_encoding.md R57) as instructions. `fsm` is the place in an exchange (10_state.md
R17), and what a command does depends on it (DESIGN CHOICE, log entry 8): in Encoding its encoder runs (R93 to R101,
and nothing else); in Decoded its decoder runs (R109 to R117); in Idle and Aborted the command on its own is the
EXECUTE request of it (R71, R137); in between, an exchange is in progress and the command is held (R132). -/

namespace Sys2Proof.Machine
open Sys2Proof

/-- A wire command with its operands, at the place in an exchange that `fsm` holds. -/
def wireCommand (c : Command) (o : Operands) (s : State) : Out :=
  match s.fsm with
  | .idle | .aborted => execExecute { o with cmd := c.selector } s
  | .encoding => .next (encodeCommand c o s)
  | .decoded => finishCommand c s
  | .transmitting | .awaitingAck | .awaitingPayload | .pacing => .next s

/-- GetVersion (R93, R109). -/
def execGetVersion (s : State) : Out := wireCommand .getVersion Operands.zero s

/-- GetHelp (R94, R110). -/
def execGetHelp (s : State) : Out := wireCommand .getHelp Operands.zero s

/-- GetChipId (R95, R111). -/
def execGetChipId (s : State) : Out := wireCommand .getChipId Operands.zero s

/-- GetReadProtectionStatus (R96, R112). -/
def execGetReadProtectionStatus (s : State) : Out := wireCommand .getReadProtectionStatus Operands.zero s

/-- JumpToAddress (R97, R113). -/
def execJumpToAddress (a : Word) (s : State) : Out := wireCommand .jumpToAddress { Operands.zero with a32 := a } s

/-- EraseFlash (R98, R114). -/
def execEraseFlash (st k : Byte) (s : State) : Out :=
  wireCommand .eraseFlash { Operands.zero with p0 := st, p1 := k } s

/-- The operands of a MemoryWrite: under ENCODE the chunk, under EXECUTE base and length (R68). -/
def memoryWriteOperands (a : Word) (d : List Byte) : Operands :=
  { Operands.zero with a32 := a, len64 := BitVec.ofNat 64 d.length, data := d }

/-- MemoryWrite (R99, R115). Issued on its own it is EXECUTE MemoryWrite with the chunk as the whole image, which the
host has the image source deliver (R68, R166 step 4; log entry 9); a chunk length outside 1 to 128 is refused before
any byte (R92). -/
def execMemoryWrite (a : Word) (d : List Byte) (s : State) : Out :=
  if s.fsm.busy then wireCommand .memoryWrite (memoryWriteOperands a d) s
  else if chunkLengthOk d.length then
    wireCommand .memoryWrite (memoryWriteOperands a d) { s with imageSource := d }
  else
    issue ⟨0x40, { memoryWriteOperands a d with cmd := Command.memoryWrite.selector }⟩
      (fun t => .next (invalidParameter .badChunkLen t)) s

/-- ChangeReadProtectionLevel (R100, R116). -/
def execChangeReadProtectionLevel (v : Byte) (s : State) : Out :=
  wireCommand .changeReadProtectionLevel { Operands.zero with p0 := v } s

/-- JumpToApplication (R101, R117). -/
def execJumpToApplication (s : State) : Out := wireCommand .jumpToApplication Operands.zero s

/-! ### The four declared but unimplemented operations -/

/-- A command that would need a reserved opcode is refused with INVALID_PARAMETER before any byte is written (R59, I2).
No selector of 1 to 9 names it (R57, R58), so the failing check is that of the selector (DEDUCED, log entry 10). While
a request is in progress it is held (R132). -/
def refuseReservedOp (s : State) : Out :=
  if s.fsm.busy then .next s else .next (invalidParameter .badSelector (clearExchange s))

/-- Extended write-protect (R59). -/
def execExtendedWriteProtect (s : State) : Out := refuseReservedOp s

/-- Memory read (R59). -/
def execMemoryRead (s : State) : Out := refuseReservedOp s

/-- Sector-status read (R59). -/
def execSectorStatusRead (s : State) : Out := refuseReservedOp s

/-- OTP read (R59). -/
def execOtpRead (s : State) : Out := refuseReservedOp s

end Sys2Proof.Machine
end

