-- ==== Sys2Proof/Machine/Dispatch.lean ====
section
/-! DEFINITION. One arm per instruction: each calls the instruction's meaning. -/

namespace Sys2Proof.Machine
open Sys2Proof

def exec (i : Instr) (s : State) : Host.Outcome State Fault Refusal :=
  match i with
  -- requests (30_encoding.md R67)
  | .crcInit o => Sys2Proof.Machine.execCrcInit o s
  | .crcUpdate o => Sys2Proof.Machine.execCrcUpdate o s
  | .crcRead o => Sys2Proof.Machine.execCrcRead o s
  | .crcBlock o => Sys2Proof.Machine.execCrcBlock o s
  | .codecSplit32 o => Sys2Proof.Machine.execCodecSplit32 o s
  | .codecJoin32 o => Sys2Proof.Machine.execCodecJoin32 o s
  | .codecJoin16 o => Sys2Proof.Machine.execCodecJoin16 o s
  | .encode o => Sys2Proof.Machine.execEncode o s
  | .decode o => Sys2Proof.Machine.execDecode o s
  | .execute o => Sys2Proof.Machine.execExecute o s
  | .sendImage o => Sys2Proof.Machine.execSendImage o s
  | .cancel _ => Sys2Proof.Machine.execCancel s
  | .status _ => Sys2Proof.Machine.execStatus s
  | .reservedRequest code o => Sys2Proof.Machine.execReservedRequest code o s
  -- wire commands (30_encoding.md R57)
  | .getVersion => Sys2Proof.Machine.execGetVersion s
  | .getHelp => Sys2Proof.Machine.execGetHelp s
  | .getChipId => Sys2Proof.Machine.execGetChipId s
  | .getReadProtectionStatus => Sys2Proof.Machine.execGetReadProtectionStatus s
  | .jumpToAddress a => Sys2Proof.Machine.execJumpToAddress a s
  | .eraseFlash st k => Sys2Proof.Machine.execEraseFlash st k s
  | .memoryWrite a d => Sys2Proof.Machine.execMemoryWrite a d s
  | .changeReadProtectionLevel v => Sys2Proof.Machine.execChangeReadProtectionLevel v s
  | .jumpToApplication => Sys2Proof.Machine.execJumpToApplication s
  -- declared but unimplemented operations (30_encoding.md R59)
  | .extendedWriteProtect => Sys2Proof.Machine.execExtendedWriteProtect s
  | .memoryRead => Sys2Proof.Machine.execMemoryRead s
  | .sectorStatusRead => Sys2Proof.Machine.execSectorStatusRead s
  | .otpRead => Sys2Proof.Machine.execOtpRead s
  -- the acknowledgment header (30_encoding.md R60, R61)
  | .ack => Sys2Proof.Machine.execAck s
  | .nack st => Sys2Proof.Machine.execNack st s

end Sys2Proof.Machine
end

