-- ==== Sys2Proof/Machine/Turn.lean ====
section
/-! DEFINITION. Whose turn it is and what the machine fetches: an input from outside, or the block's own next step.
The instruction is fetched from where the sequencer's state points: the request port when a request is issued, the image
source in Encoding (a MemoryWrite chunk), the receive stream in AwaitingAck (the status byte of a header). The other
states advance the exchange in progress (45_session.md R134, R141). -/

namespace Sys2Proof.Machine
open Sys2Proof

/-- `xfer_chunk()` from its ImageRead on (44_flash_transfer.md R122, T11, T12): read the `xs_cur_len` bytes of the chunk
from the image source, run the MemoryWrite they make with `xs_base`, and go on to Transmitting; a short read aborts the
transfer before anything is written. -/
def chunkStep (s : State) : Out :=
  let n := s.xsCurLen.toNat
  if chunkLengthOk n then
    let (d, t) := imageRead n s
    if d.length ≠ n then .next (xferAbort .sourceShort (BitVec.ofNat 16 d.length) t)
    else
      match exec (.memoryWrite t.xsBase d) t with
      | .next u => .next (beginTransmit u)
      | .fault f => .fault f
      | .refused r => .refused r
  else .fault .imageReadLength

/-- The first header byte (43_response_decoder.md R103, T15, T16, T18). -/
def headerStep (s : State) : Out :=
  match chanRead s with
  | (.timeout, t) => .next (raiseInExchange .channelTimeout 0 t)
  | (.byte b, t) => exec (decodeHeader b) t

/-- The block's own next step, by the sequencer's state (45_session.md R134, R141). In Idle and Aborted it waits for a
request (R141, R161). -/
def blockTurn (s : State) : Out :=
  match s.fsm with
  | .idle | .aborted => .next s
  | .encoding => chunkStep s
  | .transmitting => .next (transmitByte s)
  | .awaitingAck => if s.ackStatus = none then headerStep s else readAckLen s
  | .awaitingPayload => readPayloadByte s
  | .decoded => payloadComplete s
  | .pacing => .next (pacingEnd s)

/-- CANCEL and STATUS are accepted whether or not a request is in progress (R133). -/
def acceptedAnyTime (q : Request) : Bool := q.code == 0x60#8 || q.code == 0x70#8

/-- Can the input be taken now? A request waits for the one in progress, CANCEL and STATUS excepted (R132, R133); the
host keeps away from the channel and the image source while a request is in progress (R136, R167, R170; log
entry 20); reset and arriving draws are taken at any time (R162, R43). -/
def Input.enabled (s : State) : Input → Bool
  | .request q => acceptedAnyTime q || !s.fsm.busy
  | .resetInputBuffer | .positionImage _ | .hostWrite _ => !s.fsm.busy
  | .reset | .arrive _ | .pass => true

/-- Reset (R162, R163, T27): every register at its reset value, no response; what is on the streams stays (R164, R165,
R168; log entry 5). -/
def resetInput (s : State) : State := { s with toRegs := Regs.reset }

/-- An input that is taken. -/
def takeInput (x : Input) (s : State) : Out :=
  match x with
  | .request q => exec (decodeRequest q) s
  | .reset => .next (resetInput s)
  | .arrive ds => .next { s with chanRx := s.chanRx ++ ds }
  | .resetInputBuffer => .next { s with chanRx := [] }
  | .positionImage bs => .next { s with imageSource := bs }
  | .hostWrite bs => .next { s with chanTx := s.chanTx ++ bs }
  | .pass => blockTurn s

/-- `s` with no request in progress, so that the port can take one. -/
def madeFree (s : State) : State :=
  if s.fsm.busy then { s with fsm := .idle, xsActive := false, cancelLatch := false } else s

/-- `s` in an exchange that waits for its header: the one it is in, else that of a DECODE just accepted (R118, T10). -/
def madeToWait (s : State) : State :=
  if s.fsm = .awaitingAck ∧ s.ackStatus = none ∧ s.req ≠ none then s
  else
    { accept ⟨0x30, { Operands.zero with cmd := Command.getVersion.selector }⟩ (madeFree s) with fsm := .awaitingAck }

/-- Put an instruction of the opcode table where the next step fetches it: the header byte 0xCD at the head of the
receive stream of a block that waits for a header, a request at the head of the inputs of a block that can take it (log
entry 13). -/
def placeTableWord (s : State) (nbits w : Nat) : State :=
  let w := w % 2 ^ nbits
  if isHeaderWord w then
    let t := madeToWait s
    { t with inbox := [], chanRx := .byte Config.ackOk :: t.chanRx }
  else
    let q := requestOfWord nbits w
    let t := if acceptedAnyTime q then s else madeFree s
    { t with inbox := .request q :: t.inbox }

end Sys2Proof.Machine
end

