-- ==== Sys2Proof/Machine/Step.lean ====
section
/-! DEFINITION. One step of the machine (45_session.md R134): the next input if it can be taken now, else the block's
own next step. -/

namespace Sys2Proof.Machine
open Sys2Proof

/-- One transaction-level step. An input that must wait leaves the turn to the block. -/
def step (s : State) : Host.Outcome State Fault Refusal :=
  match s.inbox with
  | [] => blockTurn s
  | x :: rest => if x.enabled s then takeInput x { s with inbox := rest } else blockTurn s

/-- `s` with one instruction of the opcode table where the next step fetches it. -/
def State.withFetchWord (s : State) (nbits w : Nat) : State := placeTableWord s nbits w

end Sys2Proof.Machine
end

