-- ==== Sys2Proof/Machine/Assembler.lean ====
section
/-! DEFINITION. The assembler syntax of 30_encoding.md R70 as a printer of requests, and the pseudo-requests of R71. A
reserved code has no syntax. Numbers are printed in decimal, which R70 allows. -/

namespace Sys2Proof.Machine
open Sys2Proof

/-- A command's name (R57, R70). -/
def Command.asmName : Command → String
  | .getVersion => "GetVersion"
  | .getHelp => "GetHelp"
  | .getChipId => "GetChipId"
  | .getReadProtectionStatus => "GetReadProtectionStatus"
  | .jumpToAddress => "JumpToAddress"
  | .eraseFlash => "EraseFlash"
  | .memoryWrite => "MemoryWrite"
  | .changeReadProtectionLevel => "ChangeReadProtectionLevel"
  | .jumpToApplication => "JumpToApplication"

/-- A number of `w` bits. -/
def asmNum {w : Nat} (v : BitVec w) : String := toString v.toNat

/-- A byte list in wire order (R70). -/
def asmBytes (bs : List Byte) : String := "[" ++ String.intercalate ", " (bs.map asmNum) ++ "]"

/-- A command with the operands R68 gives it; MemoryWrite's differ under ENCODE and EXECUTE. -/
def asmCommand (underEncode : Bool) (o : Operands) (c : Command) : String :=
  Command.asmName c ++
    match c with
    | .jumpToAddress => " addr=" ++ asmNum o.a32
    | .eraseFlash => " start=" ++ asmNum o.p0 ++ " count=" ++ asmNum o.p1
    | .changeReadProtectionLevel => " level=" ++ asmNum o.p0
    | .memoryWrite =>
      if underEncode then " addr=" ++ asmNum o.a32 ++ " data=" ++ asmBytes o.data
      else " base=" ++ asmNum o.a32 ++ " len=" ++ asmNum o.len64
    | .getVersion | .getHelp | .getChipId | .getReadProtectionStatus | .jumpToApplication => ""

/-- A request's line (R70), if it has one: a reserved code and a selector that names no command have none. -/
def asmRequest (q : Request) : Option String :=
  let o := q.ops
  match q.code.toNat with
  | 0x01 => some "crc.init"
  | 0x02 => some ("crc.update " ++ asmNum o.p0)
  | 0x03 => some "crc.read"
  | 0x04 => some ("crc.block " ++ asmBytes o.data)
  | 0x10 => some ("codec.split32 " ++ asmNum o.a32)
  | 0x11 => some ("codec.join32 " ++ asmBytes o.data)
  | 0x12 => some ("codec.join16 " ++ asmBytes o.data)
  | 0x20 => (Command.ofSelector o.cmd).map fun c => "encode " ++ asmCommand true o c
  | 0x30 => (Command.ofSelector o.cmd).map fun c => "decode " ++ Command.asmName c
  | 0x40 => (Command.ofSelector o.cmd).map fun c => "exec " ++ asmCommand false o c
  | 0x50 => some ("send_image base=" ++ asmNum o.a32 ++ " len=" ++ asmNum o.len64)
  | 0x60 => some "cancel"
  | 0x70 => some "status"
  | _ => none

/-- The pseudo-request `crc32 [<bytes>]` (R71). -/
def pseudoCrc32 (bs : List Byte) : Request := ⟨0x04, { Operands.zero with data := bs }⟩

/-- The pseudo-request `mass_erase` (R71): EraseFlash with the sentinel and count 0. -/
def pseudoMassErase : Request :=
  ⟨0x40, { Operands.zero with cmd := Command.eraseFlash.selector, p0 := Config.massErase, p1 := 0 }⟩

/-- The pseudo-request that is a command's name alone (R71), for a command with no operands. -/
def pseudoCommand (c : Command) : Option Request :=
  match c with
  | .getVersion | .getHelp | .getChipId | .getReadProtectionStatus | .jumpToApplication =>
    some ⟨0x40, { Operands.zero with cmd := c.selector }⟩
  | .jumpToAddress | .eraseFlash | .memoryWrite | .changeReadProtectionLevel => none

end Sys2Proof.Machine
end

