-- ==== Sys2Proof/Safety.lean ====
section
/-! DEFINITION. What holds in every state the machine reaches: 45_session.md R142, 10_state.md R29 and R30, 20_memory.md
R48, 60_exceptions.md R146, made inductive by saying which request is in progress. The model's own wording where the
rules leave room: a state between two steps is never Decoded (R134). -/

namespace Sys2Proof.Machine
open Sys2Proof

/-- The transfer a request asks for: base address and length of a SEND_IMAGE, or of an EXECUTE of MemoryWrite (R119,
R137). -/
def transferOf (q : Request) : Option (Word × DWord) :=
  if q.code = 0x50#8 ∨ (q.code = 0x40#8 ∧ Command.ofSelector q.ops.cmd = some .memoryWrite) then
    some (q.ops.a32, q.ops.len64)
  else none

/-- The command of a request that runs one exchange outside a transfer: a DECODE (R118), or an EXECUTE of any command
but MemoryWrite (R137). -/
def singleExchangeOf (q : Request) : Option Command :=
  if q.code = 0x30#8 then Command.ofSelector q.ops.cmd
  else if q.code = 0x40#8 ∧ Command.ofSelector q.ops.cmd ≠ some .memoryWrite then Command.ofSelector q.ops.cmd
  else none

/-- `txbuf` holds a frame the encoder can build: that of one of the nine implemented commands, with a payload of at
most 133 bytes (R53, R59, R89). -/
def holdsFrame (s : State) : Prop :=
  ∃ (c : Command) (pl : List Byte), pl.length ≤ 133 ∧ s.txbuf = frameBytes (s.opcodes.ofCommand c) pl

/-- R29, for the transfer of base `b0` and length `l`: where the engine is, and what it has sent. -/
structure TransferInv (b0 : Word) (l : DWord) (s : State) : Prop where
  inRange : b0.toNat + l.toNat ≤ 2 ^ 32
  total : s.xsTotal = l
  sentLe : s.xsSent.toNat ≤ l.toNat
  base : s.xsBase = b0 + s.xsSent.setWidth 32
  whole : s.xsSent.toNat % 128 = 0 ∨ s.xsSent = l
  unfinished : s.fsm ≠ .pacing → s.xsSent.toNat < l.toNat
  inFlight : s.fsm ≠ .pacing → s.xsCurLen.toNat = min 128 (l.toNat - s.xsSent.toNat)
  chunkFrame : s.fsm = .transmitting → ∃ d : List Byte, d.length = s.xsCurLen.toNat ∧
    s.txbuf = frameBytes (s.opcodes.ofCommand .memoryWrite) (memoryWritePayload s.xsBase d)

/-- The invariant. -/
structure Inv (s : State) : Prop where
  /-- R142: a frame is being written, and a byte of it is left. -/
  transmitting : s.fsm = .transmitting → s.txIdx.toNat < s.txbuf.length ∧ holdsFrame s
  /-- R142: the frame was written whole before the response is read, or the request is a DECODE. -/
  wholeFrame : s.fsm = .awaitingAck ∨ s.fsm = .awaitingPayload →
    s.txIdx.toNat = s.txbuf.length ∨ ∃ o, s.req = some ⟨0x30, o⟩
  /-- R24: the header registers hold no value from the start of an exchange until its header is read. -/
  fresh : s.fsm = .transmitting → s.ackStatus = none ∧ s.ackLen = none
  /-- R103: in AwaitingAck no status byte is held, or an acknowledged one. -/
  header : s.fsm = .awaitingAck → s.ackStatus = none ∨ s.ackStatus = some Config.ackOk
  /-- R142, R104: in AwaitingPayload the header was acknowledged and payload bytes are missing. -/
  payload : s.fsm = .awaitingPayload → s.ackStatus = some Config.ackOk ∧
    ∃ l, s.ackLen = some l ∧ s.rxIdx.toNat < l.toNat ∧ s.rxbuf.length = s.rxIdx.toNat
  /-- R134: Decoded is left in the step that enters it. -/
  notDecoded : s.fsm ≠ .decoded
  /-- R142: a transfer is active only while a request is in progress, and always in Pacing and Encoding. -/
  activeBusy : s.xsActive = true → s.fsm.busy = true
  chunkStates : s.fsm = .pacing ∨ s.fsm = .encoding → s.xsActive = true
  /-- R30: the latch is set only during a transfer. -/
  latch : s.cancelLatch = true → s.xsActive = true
  /-- R20, R133: `err` is cleared while a request is in progress. -/
  busyErr : s.fsm.busy = true → s.err = .none ∧ s.errInfo = 0
  /-- R142, R146: Aborted shows a fatal error, Idle never does. -/
  abortedErr : s.fsm = .aborted → s.err.fatal = true
  idleErr : s.fsm = .idle → s.err.fatal = false
  /-- R19: `req` holds the request in progress, and it is one that uses the channel. -/
  single : s.fsm.busy = true → s.xsActive = false → ∃ q c, s.req = some q ∧ singleExchangeOf q = some c
  transfer : s.xsActive = true → ∃ q b0 l, s.req = some q ∧ transferOf q = some (b0, l) ∧ TransferInv b0 l s

end Sys2Proof.Machine
end

