-- ==== Sys2Proof/Certificates/Slice0/Obligations.lean ====
section
/-! DEFINITION. The statements for the provers, from the numbered rules of spec/. The helpers under `Sys2Proof.Spec`
write out states and byte layouts field by field, so that a statement does not lean on the operation it is about. -/

namespace Sys2Proof.Spec
open Sys2Proof Sys2Proof.Machine

/-- No request is in progress (45_session.md R132, R141). -/
def free (s : State) : Prop := s.fsm = .idle ∨ s.fsm = .aborted

/-- The state after a request that is accepted and ends without an error in the same step (R20, R26, R69, R133): `req`
is the request, the buffers and header registers are cleared, the response is delivered; `crc` is what the request
leaves in `crc_acc`. Every other field is as before. -/
def doneAtOnce (q : Request) (r : Option Result) (crc : Word) (s : State) : State :=
  { s with
    fsm := .idle, req := some q, err := .none, errInfo := 0, result := r, crcAcc := crc
    txbuf := [], txIdx := 0, ackStatus := none, ackLen := none, rxbuf := [], rxIdx := 0
    responses := s.responses ++ [⟨.none, 0, r⟩] }

/-- The state after a request that is accepted and refused with INVALID_PARAMETER in the same step (R91, R133, R147);
`info` is the number of R145. -/
def refusedAtOnce (q : Request) (info : Half) (s : State) : State :=
  { s with
    fsm := .idle, req := some q, err := .invalidParameter, errInfo := info, result := none
    txbuf := [], txIdx := 0, ackStatus := none, ackLen := none, rxbuf := [], rxIdx := 0
    responses := s.responses ++ [⟨.invalidParameter, info, none⟩] }

/-- The end of the request in progress (R147), with the state it leaves the sequencer in written out. -/
def ended (e : ErrCode) (info : Half) (r : Option Result) (f : Fsm) (s : State) : State :=
  { s with err := e, errInfo := info, result := r, fsm := f, responses := s.responses ++ [⟨e, info, r⟩] }

/-- The end of a transfer that cannot go on (R128). -/
def aborted (e : ErrCode) (info : Half) (s : State) : State :=
  { ended e info (some (.transfer false s.xsSent s.xsUnknown)) .aborted s with
    xsAllOk := false, xsActive := false, cancelLatch := false }

/-- The bytes of a u32 on the wire, least significant first (R37, R81). -/
def le32 (v : Word) : List Byte := [v.extractLsb' 0 8, v.extractLsb' 8 8, v.extractLsb' 16 8, v.extractLsb' 24 8]

/-- A frame without its CRC, as the table of R55 lays it out: formats F0, FA, FE, FL and FW. -/
def layout (p : Opcodes) (o : Operands) : Command → List Byte
  | .getVersion => [0x05, p.getVersion]
  | .getHelp => [0x05, p.getHelp]
  | .getChipId => [0x05, p.getChipId]
  | .getReadProtectionStatus => [0x05, p.getRdpStatus]
  | .jumpToAddress => [0x09, p.jumpToAddress] ++ le32 o.a32
  | .eraseFlash => [0x07, p.eraseFlash, o.p0, o.p1]
  | .memoryWrite =>
    [BitVec.ofNat 8 (10 + o.data.length), p.memoryWrite] ++ le32 o.a32 ++ [BitVec.ofNat 8 o.data.length] ++ o.data
  | .changeReadProtectionLevel => [0x06, p.changeRdpLevel, o.p0]
  | .jumpToApplication => [0x05, p.jumpToApp]

/-- A whole frame (R53, R55). -/
def frame (p : Opcodes) (o : Operands) (c : Command) : List Byte := layout p o c ++ le32 (crc32 (layout p o c))

/-- The operands are in range for the command's encoder (R92, R100). -/
def inRange (o : Operands) (c : Command) : Prop :=
  (c = .changeReadProtectionLevel → o.p0 = 0 ∨ o.p0 = 1) ∧
  (c = .memoryWrite → 1 ≤ o.data.length ∧ o.data.length ≤ 128)

/-- The wire command of the opcode table, with the operands R68 gives it. -/
def wireInstr (o : Operands) : Command → Instr
  | .getVersion => .getVersion
  | .getHelp => .getHelp
  | .getChipId => .getChipId
  | .getReadProtectionStatus => .getReadProtectionStatus
  | .jumpToAddress => .jumpToAddress o.a32
  | .eraseFlash => .eraseFlash o.p0 o.p1
  | .memoryWrite => .memoryWrite o.a32 o.data
  | .changeReadProtectionLevel => .changeReadProtectionLevel o.p0
  | .jumpToApplication => .jumpToApplication

/-- A single-shot exchange has read a whole response: Decoded, no transfer, `ack_len` and `rxbuf` agree (R104). -/
def responseRead (l : Byte) (p : List Byte) (s : State) : Prop :=
  s.fsm = .decoded ∧ s.xsActive = false ∧ s.ackLen = some l ∧ s.rxbuf = p ∧ p.length = l.toNat

/-- The request in progress delivers a documented payload (R118, R137). -/
def delivered (p : Payload) (s : State) : State := ended .none 0 (some (.payload p)) .idle s

/-- The request in progress reports an unknown response (R106, R118, R137). -/
def reported (l first : Byte) (s : State) : State :=
  ended .unknownResponseCode (l ++ first) (some (.payload (.unknown s.rxbuf))) .idle s

/-- One ChanRead of `s` draws `d` and leaves `u` (R43): the first draw that State lists, or, where it lists none, the free
draw of the counter (log entry 3). -/
def draws (d : RxDraw) (s u : State) : Prop :=
  (∃ ds, s.chanRx = d :: ds ∧ u = { s with chanRx := ds }) ∨
  (s.chanRx = [] ∧ d = Config.deviceDraw s.drawIdx ∧ u = { s with drawIdx := s.drawIdx + 1 })

/-- The exchange in progress is one of `c` (R19): that of a DECODE or EXECUTE, or a chunk of a transfer. -/
def exchangeOf (c : Command) (s : State) : Prop :=
  ∃ q, s.req = some q ∧ (singleExchangeOf q = some c ∨ (transferOf q).isSome = true ∧ c = .memoryWrite)

/-- One iteration of the CRC loop on an accumulator of unbounded width that is never masked (R73). -/
def wideShift (a : Nat) : Nat := if a.testBit 31 then (2 * a) ^^^ 0x04C11DB7 else 2 * a

/-- The conventional most-significant-bit-first step: the byte into bits 31:24, 8 shifts (R75). -/
def msbFirstStep (acc : Word) (b : Byte) : Word :=
  (fun a : Word => if a.msb then (a <<< 1) ^^^ 0x04C11DB7#32 else a <<< 1)^[8] (acc ^^^ (b.setWidth 32 <<< 24))

/-- The states `fsm` may go to in one step that is no reset (R141): each with the rows that lead there, and itself
where CANCEL, STATUS or another input from outside leaves it (T26). -/
def successors : Fsm → List Fsm
  | .idle => [.idle, .transmitting, .encoding, .awaitingAck]
  | .aborted => [.aborted, .idle, .transmitting, .encoding, .awaitingAck]
  | .encoding => [.encoding, .transmitting, .aborted]
  | .transmitting => [.transmitting, .awaitingAck]
  | .awaitingAck => [.awaitingAck, .awaitingPayload, .aborted, .idle, .pacing]
  | .awaitingPayload => [.awaitingPayload, .aborted, .idle, .pacing]
  | .decoded => [.decoded, .idle, .pacing]
  | .pacing => [.pacing, .encoding, .aborted, .idle]

/-- The test instantiation T of 95_test_vectors.md, section 0. -/
def testOpcodes : Opcodes :=
  ⟨0x10, 0x11, 0x12, 0x13, 0x14, 0x15, 0x16, 0x21, 0x22, 0x17, 0x18, 0x19, 0x20⟩

end Sys2Proof.Spec

open Sys2Proof Sys2Proof.Machine Sys2Proof.Spec

/-! ### CRC Engine -/

/-- R72 and R74: one step XORs the byte into bits 7:0 once and then 32 times shifts and, if bit 31 was set, XORs the
polynomial; the function starts from 0xFFFFFFFF and takes one step per byte, with nothing done at the end. -/
def Obligations.CrcStepAndFunctionAreAsDefined : Prop :=
  (∀ (acc : Word) (b : Byte), crcStep acc b =
    (fun a : Word => if a.getLsbD 31 then (a <<< 1) ^^^ 0x04C11DB7#32 else a <<< 1)^[32]
      (acc ^^^ b.setWidth 32)) ∧
  crc32 [] = 0xFFFFFFFF#32 ∧ ∀ (s : List Byte) (b : Byte), crc32 (s ++ [b]) = crcStep (crc32 s) b

/-- R75: the step is linear over XOR. -/
def Obligations.CrcStepIsLinear : Prop :=
  ∀ (a1 a2 : Word) (b1 b2 : Byte), crcStep (a1 ^^^ a2) (b1 ^^^ b2) = crcStep a1 b1 ^^^ crcStep a2 b2

/-- R73: an accumulator that is never masked has the same low 32 bits in the end. -/
def Obligations.CrcStepOnWideAccumulator : Prop :=
  ∀ (acc : Nat) (b : Byte), crcStep (BitVec.ofNat 32 acc) b = BitVec.ofNat 32 (wideShift^[32] (acc ^^^ b.toNat))

/-- R75: `crc32` is the conventional MSB-first CRC of the sequence with every byte `b` replaced by `00 00 00 b`. -/
def Obligations.Crc32IsMsbFirstCrcOfExpandedBytes : Prop :=
  ∀ s : List Byte, crc32 s = (s.flatMap fun b => [0, 0, 0, b]).foldl msbFirstStep 0xFFFFFFFF#32

/-- R77, CRC.INIT. -/
def Obligations.CrcInitSetsAccumulator : Prop :=
  ∀ (o : Operands) (s : State), free s →
    exec (.crcInit o) s = .next (doneAtOnce ⟨0x01, o⟩ none 0xFFFFFFFF#32 s)

/-- R78, CRC.UPDATE. -/
def Obligations.CrcUpdateMixesOneByte : Prop :=
  ∀ (o : Operands) (s : State), free s →
    exec (.crcUpdate o) s = .next (doneAtOnce ⟨0x02, o⟩ none (crcStep s.crcAcc o.p0) s)

/-- R79, CRC.READ. -/
def Obligations.CrcReadReturnsAccumulator : Prop :=
  ∀ (o : Operands) (s : State), free s →
    exec (.crcRead o) s = .next (doneAtOnce ⟨0x03, o⟩ (some (.word s.crcAcc)) s.crcAcc s)

/-- R80, CRC.BLOCK: the accumulator and the result are `crc32(data)`, whatever the accumulator was; issuing CRC.INIT,
CRC.UPDATE for each byte and CRC.READ leaves the same accumulator and returns the same value. The second half is the
sentence of R80 that the spec marks as derived from R74, R77, R78 and R79. -/
def Obligations.CrcBlockIsInitUpdatesRead : Prop :=
  ∀ (o : Operands) (s : State), free s →
    exec (.crcBlock o) s = .next (doneAtOnce ⟨0x04, o⟩ (some (.word (crc32 o.data))) (crc32 o.data) s) ∧
    ∃ t, core.run (o.data.length + 2)
        { s with inbox := .request ⟨0x01, o⟩ ::
            (o.data.map fun b => .request ⟨0x02, { o with p0 := b }⟩) ++ [.request ⟨0x03, o⟩] } = .next t ∧
      t.crcAcc = crc32 o.data ∧ t.result = some (.word (crc32 o.data)) ∧ t.inbox = []

/-! ### Byte-Order Codec -/

/-- R86, CODEC.SPLIT32: bits 7:0, 15:8, 23:16, 31:24 in this order. -/
def Obligations.Split32ReturnsLowByteFirst : Prop :=
  ∀ (o : Operands) (s : State), free s →
    exec (.codecSplit32 o) s = .next (doneAtOnce ⟨0x10, o⟩ (some (.bytes (le32 o.a32))) s.crcAcc s)

/-- R87, CODEC.JOIN32: four bytes, the first the least significant; any other number of bytes is BAD_DATA_LEN (5). -/
def Obligations.Join32NeedsFourBytes : Prop :=
  ∀ (o : Operands) (s : State), free s →
    (∀ b1 b2 b3 b4 : Byte, o.data = [b1, b2, b3, b4] →
      exec (.codecJoin32 o) s =
        .next (doneAtOnce ⟨0x11, o⟩ (some (.word (b4 ++ b3 ++ b2 ++ b1))) s.crcAcc s)) ∧
    (o.data.length ≠ 4 → exec (.codecJoin32 o) s = .next (refusedAtOnce ⟨0x11, o⟩ 5 s))

/-- R88, CODEC.JOIN16: two bytes, the first the least significant; any other number of bytes is BAD_DATA_LEN (5). -/
def Obligations.Join16NeedsTwoBytes : Prop :=
  ∀ (o : Operands) (s : State), free s →
    (∀ b0 b1 : Byte, o.data = [b0, b1] →
      exec (.codecJoin16 o) s = .next (doneAtOnce ⟨0x12, o⟩ (some (.half (b1 ++ b0))) s.crcAcc s)) ∧
    (o.data.length ≠ 2 → exec (.codecJoin16 o) s = .next (refusedAtOnce ⟨0x12, o⟩ 5 s))

/-- R84: split and join are inverse to each other, and join16 is the low half of join32. -/
def Obligations.CodecRoundTrip : Prop :=
  (∀ v : Word, ∃ b1 b2 b3 b4, split32 v = [b1, b2, b3, b4] ∧ join32 b1 b2 b3 b4 = v) ∧
  (∀ b1 b2 b3 b4 : Byte, split32 (join32 b1 b2 b3 b4) = [b1, b2, b3, b4]) ∧
  (∀ b0 b1 : Byte, join16 b0 b1 = (join32 b0 b1 0 0).extractLsb' 0 16)

/-! ### Encodings -/

/-- R58: selectors 1 to 9 name the nine commands in the order of the enumeration; no other selector names one. -/
def Obligations.SelectorsNameTheCommands : Prop :=
  [1, 2, 3, 4, 5, 6, 7, 8, 9].map Command.ofSelector =
    [some .getVersion, some .getHelp, some .getChipId, some .getReadProtectionStatus, some .jumpToAddress,
     some .eraseFlash, some .memoryWrite, some .changeReadProtectionLevel, some .jumpToApplication] ∧
  ∀ b : Byte, b = 0 ∨ 10 ≤ b.toNat → Command.ofSelector b = none

/-- The request port and the header, decoded (R67, R61): a request record and its instruction determine each other, and
so do a status byte and its instruction. -/
def Obligations.RequestAndHeaderCodesAreUnambiguous : Prop :=
  (∀ q : Request, (decodeRequest q).wellFormed = true ∧ encodeRequest (decodeRequest q) = some q) ∧
  (∀ (i : Instr) (q : Request), i.wellFormed = true → encodeRequest i = some q → decodeRequest q = i) ∧
  (∀ b : Byte, (decodeHeader b).wellFormed = true ∧
    ∀ p : Opcodes, Sys2Proof.encode p (decodeHeader b) = some (.header b))

/-- Decoding the encoding of any well-formed instruction gives it back, for every admissible assignment of opcodes: no
operand bit of a request, a frame or a status byte is dropped (R53, R54, R55, R57, R61, R67). -/
def Obligations.DecodeOfEncodeIsIdentity : Prop :=
  ∀ (p : Opcodes) (i : Instr) (e : Encoded), p.distinct → i.wellFormed = true → Sys2Proof.encode p i = some e →
    Sys2Proof.decode p e = .ok i

/-- A frame that decodes to an implemented command is that command's encoding: no two byte sequences stand for one
command (R53, R55). -/
def Obligations.FrameOfACommandIsUnique : Prop :=
  ∀ (p : Opcodes) (bs fs : List Byte) (i : Instr), decodeFrame p bs = .ok i → encodeFrame p i = some fs → bs = fs

/-- Words written out from the spec decode to what they stand for: request codes of R67, a reserved code, the header byte
0xCE of R61, and frames of 95_test_vectors.md V2.7 under T. How a table word is read is the model's (log entry 12): that a
word of 8 bits is a request with zero operands, and that 0xCD, which R67 makes a reserved request code, is the
acknowledgment there. -/
def Obligations.WrittenOutWordsDecode : Prop :=
  decodeTableWord 8 0x01 = some (.crcInit Operands.zero) ∧
  decodeTableWord 8 0x40 = some (.execute Operands.zero) ∧
  decodeTableWord 8 0x05 = some (.reservedRequest 0x05 Operands.zero) ∧
  decodeTableWord 8 0xCD = some .ack ∧
  decodeHeader 0xCE = .nack 0xCE ∧
  decodeFrame testOpcodes [0x05, 0x10, 0x27, 0x84, 0xEC, 0x4C] = .ok .getVersion ∧
  decodeFrame testOpcodes [0x09, 0x14, 0x78, 0x56, 0x34, 0x12, 0x68, 0x02, 0xB6, 0xC0] =
    .ok (.jumpToAddress 0x12345678) ∧
  decodeFrame testOpcodes [0x07, 0x15, 0x02, 0x03, 0x84, 0x6C, 0x8F, 0x77] = .ok (.eraseFlash 2 3)

/-! ### Frame Encoder -/

/-- R90: whatever frame the encoder builds, the first byte plus one is its length, and its last four bytes are the CRC
of all the others. -/
def Obligations.BuiltFrameObeysLengthAndCrcLaws : Prop :=
  ∀ (opc : Byte) (pl : List Byte) (s : State), pl.length ≤ 133 →
    let f := (buildFrame opc pl s).txbuf
    (∃ b, f.head? = some b ∧ b.toNat + 1 = f.length) ∧
    f.drop (f.length - 4) = le32 (crc32 (f.take (f.length - 4)))

/-- R55, R93 to R98, R101: ENCODE of a command with operands in range returns exactly the frame of R55's table and
leaves it in `txbuf`, its CRC in `crc_acc`, and the channel alone. -/
def Obligations.EncodeReturnsTheFrame : Prop :=
  ∀ (o : Operands) (s : State) (c : Command), free s → Command.ofSelector o.cmd = some c → inRange o c →
    exec (.encode o) s =
      .next { doneAtOnce ⟨0x20, o⟩ (some (.bytes (frame s.opcodes o c))) (crc32 (layout s.opcodes o c)) s with
        txbuf := frame s.opcodes o c }

/-- R91, T3, T4: ENCODE and EXECUTE refuse a bad selector (2) and a level other than 0 or 1 (3), and ENCODE a chunk of 0
or more than 128 bytes (4): no frame, `crc_acc` unchanged, nothing written. -/
def Obligations.BadOperandsAreRefused : Prop :=
  ∀ (o : Operands) (s : State), free s →
    (Command.ofSelector o.cmd = none →
      exec (.encode o) s = .next (refusedAtOnce ⟨0x20, o⟩ 2 s) ∧
      exec (.execute o) s = .next { refusedAtOnce ⟨0x40, o⟩ 2 s with cancelLatch := false }) ∧
    (o.cmd = 8 → o.p0 ≠ 0 → o.p0 ≠ 1 →
      exec (.encode o) s = .next (refusedAtOnce ⟨0x20, o⟩ 3 s) ∧
      exec (.execute o) s = .next { refusedAtOnce ⟨0x40, o⟩ 3 s with cancelLatch := false }) ∧
    (o.cmd = 7 → o.data.length = 0 ∨ 128 < o.data.length →
      exec (.encode o) s = .next (refusedAtOnce ⟨0x20, o⟩ 4 s))

/-- R89, R92, R93 to R101: in Encoding a wire command builds its frame, writing `crc_acc`, `txbuf` and `tx_idx` and
nothing else; a chunk of 0 or more than 128 bytes and a level other than 0 or 1 are refused, with no frame and `crc_acc`
unchanged. That `exec` of a command in Encoding is its encoder is the model's form of these rules (log entry 8). -/
def Obligations.WireCommandsBuildTheirFrames : Prop :=
  ∀ s : State, s.fsm = .encoding →
    (∀ (o : Operands) (c : Command), inRange o c →
      exec (wireInstr o c) s =
        .next { s with
          crcAcc := crc32 (layout s.opcodes o c), txbuf := frame s.opcodes o c, txIdx := 0 }) ∧
    (∀ (a : Word) (d : List Byte), d.length = 0 ∨ 128 < d.length →
      exec (.memoryWrite a d) s = .next (ended .invalidParameter 4 none .idle s)) ∧
    (∀ v : Byte, v ≠ 0 → v ≠ 1 →
      exec (.changeReadProtectionLevel v) s = .next (ended .invalidParameter 3 none .idle s))

/-- R71 for the five commands without operands, R137 for the others: a command on its own line is its EXECUTE request.
For the commands with operands the reading is the model's (log entry 8), and for MemoryWrite so are the chunk that the
image source delivers (R166) and the refusal of a chunk of 0 or more than 128 bytes with BAD_CHUNK_LEN (log entry 9). -/
def Obligations.CommandOnItsOwnIsExecute : Prop :=
  ∀ (o : Operands) (c : Command) (s : State), free s →
    ((c = .memoryWrite → inRange o c) →
      ∃ o' : Operands, o'.cmd = c.selector ∧
        exec (wireInstr o c) s =
          exec (.execute o') (if c = .memoryWrite then { s with imageSource := o.data } else s) ∧
        (c = .jumpToAddress → o'.a32 = o.a32) ∧ (c = .eraseFlash → o'.p0 = o.p0 ∧ o'.p1 = o.p1) ∧
        (c = .changeReadProtectionLevel → o'.p0 = o.p0) ∧
        (c = .memoryWrite → o'.a32 = o.a32 ∧ o'.len64.toNat = o.data.length) ∧
        (∀ q, pseudoCommand c = some q → q = ⟨0x40, o'⟩)) ∧
    (c = .memoryWrite → o.data.length = 0 ∨ 128 < o.data.length →
      exec (wireInstr o c) s = .next
        { refusedAtOnce ⟨0x40, { Operands.zero with
            cmd := 7, a32 := o.a32, len64 := BitVec.ofNat 64 o.data.length, data := o.data }⟩ 4 s with
          cancelLatch := false })

/-- R59: a command that would need one of the four reserved opcodes is refused with INVALID_PARAMETER, with no byte
written. That the reason is BAD_SELECTOR is the model's reading (log entry 10). -/
def Obligations.ReservedOperationsAreRefused : Prop :=
  ∀ s : State, free s →
    ∀ i ∈ [Instr.extendedWriteProtect, .memoryRead, .sectorStatusRead, .otpRead],
      exec i s = .next { s with
        fsm := .idle, err := .invalidParameter, errInfo := 2, result := none
        txbuf := [], txIdx := 0, ackStatus := none, ackLen := none, rxbuf := [], rxIdx := 0
        responses := s.responses ++ [⟨.invalidParameter, 2, none⟩] }

/-! ### Response Decoder -/

/-- R61, R103, T15, T16: the status byte 0xCD is recorded and the block goes on waiting for the second header byte; any
other status byte ends the exchange with NOT_ACKNOWLEDGED and that byte, in Aborted, and in a transfer with the partial
result of R128. Nothing more is read. That the status byte is the instruction is the model's form (log entry 11). -/
def Obligations.StatusByteAcknowledgesOrEnds : Prop :=
  ∀ (st : Byte) (s : State), s.fsm = .awaitingAck → s.ackStatus = none →
    exec .ack s = .next { s with ackStatus := some 0xCD } ∧
    (st ≠ 0xCD → s.xsActive = false →
      exec (.nack st) s =
        .next (ended .notAcknowledged (st.setWidth 16) none .aborted { s with ackStatus := some st })) ∧
    (st ≠ 0xCD → s.xsActive = true →
      exec (.nack st) s = .next (aborted .notAcknowledged (st.setWidth 16) { s with ackStatus := some st }))

/-- R118: DECODE of a command waits for a header, having written nothing; a bad selector is refused. -/
def Obligations.DecodeWaitsForAHeader : Prop :=
  ∀ (o : Operands) (s : State), free s →
    (∀ c, Command.ofSelector o.cmd = some c →
      exec (.decode o) s = .next { s with
        fsm := .awaitingAck, req := some ⟨0x30, o⟩, err := .none, errInfo := 0
        txbuf := [], txIdx := 0, ackStatus := none, ackLen := none, rxbuf := [], rxIdx := 0 }) ∧
    (Command.ofSelector o.cmd = none → exec (.decode o) s = .next (refusedAtOnce ⟨0x30, o⟩ 2 s))

/-- R109, R111: GetVersion and GetChipId deliver their fields. That `exec` of a command in Decoded is its decoder is the
model's form of these rules (log entry 8), here and in the next three. -/
def Obligations.VersionAndChipIdAreDecoded : Prop :=
  ∀ s : State,
    (∀ a b c d, responseRead 4 [a, b, c, d] s → exec .getVersion s = .next (delivered (.version a b c d) s)) ∧
    (∀ b0 b1, responseRead 2 [b0, b1] s → exec .getChipId s = .next (delivered (.chipId (b1 ++ b0)) s))

/-- R110: GetHelp delivers every byte in order, whatever their number, labelled with the command or as ReservedOp or
Raw. -/
def Obligations.HelpLabelsEveryByte : Prop :=
  ∀ (s : State) (l : Byte) (p : List Byte), responseRead l p s → s.opcodes.distinct →
    ∃ es : List (Byte × Label), exec .getHelp s = .next (delivered (.help es) s) ∧ es.map Prod.fst = p ∧
      ∀ e ∈ es,
        (∀ c, e.1 = s.opcodes.ofCommand c → e.2 = .command c) ∧
        (∀ r, e.1 = s.opcodes.ofReserved r → e.2 = .reservedOp) ∧
        (e.1 ∉ s.opcodes.toList → e.2 = .raw)

/-- R112 to R117: the one-byte answers. -/
def Obligations.OneByteAnswersAreDecoded : Prop :=
  ∀ (s : State) (b : Byte) (o : Operands), responseRead 1 [b] s →
    exec .getReadProtectionStatus s =
      .next (if b = 0 ∨ b = 1 ∨ b = 2 then delivered (.rdpLevel b) s
        else if b = 0xEE then delivered .rdpReadError s else reported 1 b s) ∧
    exec (.jumpToAddress o.a32) s =
      .next (if b = 1 then delivered .addressValid s else delivered (.addressInvalid b) s) ∧
    exec (.eraseFlash o.p0 o.p1) s =
      .next (if b = 0 then delivered .eraseZero s
        else if b = 1 then delivered .eraseSuccessful s else reported 1 b s) ∧
    exec (.memoryWrite o.a32 o.data) s =
      .next (if b = 0 then delivered .writeFailed s
        else if b = 1 then delivered .writeSuccess s else reported 1 b s) ∧
    exec (.changeReadProtectionLevel o.p0) s =
      .next (if b = 1 then delivered .levelChanged s
        else if b = 0 then delivered .levelNotChanged s else reported 1 b s) ∧
    exec .jumpToApplication s =
      .next (if b = 1 then delivered .jumped s
        else if b = 0 then delivered .noApplication s else reported 1 b s)

/-- R105: for every command but GetHelp, a length other than the expected one is reported and nothing is
interpreted. -/
def Obligations.WrongLengthIsReported : Prop :=
  ∀ (s : State) (l : Byte) (p : List Byte) (o : Operands) (c : Command), responseRead l p s → c ≠ .getHelp →
    (c = .getVersion → l ≠ 4) → (c = .getChipId → l ≠ 2) → (c ≠ .getVersion → c ≠ .getChipId → l ≠ 1) →
    exec (wireInstr o c) s = .next (reported l (p.headD 0) s)

/-! ### EXECUTE, SEND_IMAGE, CANCEL, STATUS, reserved codes -/

/-- R137, T5: EXECUTE of a single-shot command with operands in range builds its frame and goes on to Transmitting, with
no byte written yet. -/
def Obligations.ExecuteStartsTransmitting : Prop :=
  ∀ (o : Operands) (s : State) (c : Command), free s → Command.ofSelector o.cmd = some c → c ≠ .memoryWrite →
    inRange o c →
    exec (.execute o) s = .next { s with
      fsm := .transmitting, req := some ⟨0x40, o⟩, err := .none, errInfo := 0
      crcAcc := crc32 (layout s.opcodes o c), txbuf := frame s.opcodes o c, txIdx := 0
      ackStatus := none, ackLen := none, rxbuf := [], rxIdx := 0, cancelLatch := false }

/-- R137: EXECUTE of MemoryWrite is SEND_IMAGE with the same base and length; only `req` tells them apart. -/
def Obligations.ExecuteMemoryWriteIsSendImage : Prop :=
  ∀ (o : Operands) (s : State), free s → o.cmd = 7 →
    ∃ t, exec (.sendImage o) s = .next t ∧ exec (.execute o) s = .next { t with req := some ⟨0x40, o⟩ }

/-- R120, R122, R129, R134: SEND_IMAGE creates the session when `B0 + L ≤ 2^32` and, with `L > 0`, begins its first chunk,
whose length is in `xs_cur_len` when the acceptance step ends. With `L = 0` it ends the session at once with
`TransferResult(1, 0, 0)`, which the spec marks as derived (R129). Any other range is refused with BAD_RANGE (6) and the
session registers stay. -/
def Obligations.SendImageCreatesTheSession : Prop :=
  ∀ (o : Operands) (s : State), free s →
    (o.a32.toNat + o.len64.toNat ≤ 2 ^ 32 → o.len64 ≠ 0 →
      exec (.sendImage o) s = .next { s with
        fsm := .encoding, req := some ⟨0x50, o⟩, err := .none, errInfo := 0
        txbuf := [], txIdx := 0, ackStatus := none, ackLen := none, rxbuf := [], rxIdx := 0, cancelLatch := false
        xsBase := o.a32, xsTotal := o.len64, xsSent := 0, xsAllOk := true, xsUnknown := false
        xsCurLen := BitVec.ofNat 8 (min 128 o.len64.toNat), xsActive := true }) ∧
    (o.len64 = 0 →
      exec (.sendImage o) s =
        .next { doneAtOnce ⟨0x50, o⟩ (some (.transfer true 0 false)) s.crcAcc s with
          cancelLatch := false
          xsBase := o.a32, xsTotal := 0, xsSent := 0, xsAllOk := true, xsUnknown := false, xsCurLen := 0
          xsActive := false }) ∧
    (2 ^ 32 < o.a32.toNat + o.len64.toNat →
      exec (.sendImage o) s = .next { refusedAtOnce ⟨0x50, o⟩ 6 s with cancelLatch := false })

/-- R139, CANCEL: in every state, it sets the latch if a transfer is active, answers `xs_active`, and changes nothing
else. -/
def Obligations.CancelSetsTheLatchOnly : Prop :=
  ∀ (o : Operands) (s : State),
    exec (.cancel o) s = .next { s with
      cancelLatch := if s.xsActive then true else s.cancelLatch
      responses := s.responses ++ [⟨.none, 0, some (.bit s.xsActive)⟩] }

/-- R31, R140: STATUS answers the composed word in every state and changes no register; the fields are where R31 puts
them and the rest reads as 0. -/
def Obligations.StatusReturnsTheComposedWord : Prop :=
  ∀ (o : Operands) (s : State),
    ∃ w : Word, exec (.status o) s = .next { s with responses := s.responses ++ [⟨.none, 0, some (.word w)⟩] } ∧
      w.extractLsb' 0 4 = s.fsm.code ∧ w.extractLsb' 4 4 = s.err.code ∧
      w.getLsbD 8 = s.xsActive ∧ w.getLsbD 9 = s.xsAllOk ∧ w.getLsbD 10 = s.cancelLatch ∧
      w.getLsbD 11 = s.xsUnknown ∧ w.extractLsb' 12 20 = 0#20

/-- R67, R133: a request with a reserved code is refused with BAD_CODE (1) and changes nothing else. -/
def Obligations.ReservedCodeIsRefused : Prop :=
  ∀ (code : Byte) (o : Operands) (s : State), free s →
    code ∉ ([0x01, 0x02, 0x03, 0x04, 0x10, 0x11, 0x12, 0x20, 0x30, 0x40, 0x50, 0x60, 0x70] : List Byte) →
    decodeRequest ⟨code, o⟩ = .reservedRequest code o ∧
    exec (.reservedRequest code o) s = .next (refusedAtOnce ⟨code, o⟩ 1 s)

/-- R132, R133: while a request is in progress no other request but CANCEL and STATUS is taken: it stays on the port
and the block moves. That `exec` of a request that is not taken changes nothing is the model's form of it (log
entry 7). -/
def Obligations.OtherRequestsAreHeldWhileBusy : Prop :=
  ∀ (q : Request) (s : State), s.fsm.busy = true → q.code ≠ 0x60 → q.code ≠ 0x70 →
    exec (decodeRequest q) s = .next s ∧
    ∀ rest, step { s with inbox := .request q :: rest } = blockTurn { s with inbox := .request q :: rest }

/-! ### Steps -/

/-- A step runs the request it takes: the instruction decoded from the record, on the state from which the request is
gone from the port (R133). The list of inputs is the model's (log entry 1). -/
def Obligations.StepRunsTheIssuedRequest : Prop :=
  ∀ (q : Request) (rest : List Input) (s : State), s.inbox = .request q :: rest →
    free s ∨ q.code = 0x60 ∨ q.code = 0x70 →
    step s = exec (decodeRequest q) { s with inbox := rest }

/-- A step in AwaitingAck runs the first header byte it reads (R103). A step in Encoding reads the `xs_cur_len` bytes of the
chunk, runs the MemoryWrite of them at `xs_base` and goes on to Transmitting (R122). The step that reads the last payload
byte, or a second header byte of 0, runs the command of the exchange in Decoded, a chunk of a transfer included (R104,
T17, T20 to T22). That each of these is `exec` of an instruction is the model's form: of the status byte (log entry 11), of
a wire command in Encoding and in Decoded (log entry 8). That a chunk's frame, too, starts with the header registers
cleared is the model's reading of R24 (log entry 14), and the draw that State does not list is free (log entry 3). -/
def Obligations.StepRunsHeadersChunksAndDecoders : Prop :=
  ∀ s : State, s.inbox = [] →
    (∀ b u, s.fsm = .awaitingAck → s.ackStatus = none → draws (.byte b) s u → step s = exec (decodeHeader b) u) ∧
    (∀ n : Nat, s.fsm = .encoding → s.xsCurLen.toNat = n → 1 ≤ n → n ≤ 128 → n ≤ s.imageSource.length →
      ∃ t, exec (.memoryWrite s.xsBase (s.imageSource.take n)) { s with imageSource := s.imageSource.drop n } = .next t ∧
        step s = .next { t with fsm := .transmitting, ackStatus := none, ackLen := none }) ∧
    (∀ c l b u o, s.fsm = .awaitingPayload → exchangeOf c s → s.ackLen = some l → s.rxIdx.toNat + 1 = l.toNat →
      draws (.byte b) s u →
      step s = exec (wireInstr o c) { u with fsm := .decoded, rxbuf := s.rxbuf ++ [b], rxIdx := s.rxIdx + 1 }) ∧
    (∀ c u o, s.fsm = .awaitingAck → s.ackStatus = some 0xCD → exchangeOf c s → draws (.byte 0) s u →
      step s = exec (wireInstr o c) { u with fsm := .decoded, ackLen := some 0, rxbuf := [], rxIdx := 0 })

/-- R135, T13, T14: a step in Transmitting writes `txbuf[tx_idx]`, one byte. -/
def Obligations.TransmittingWritesOneByte : Prop :=
  ∀ (s : State) (b : Byte), s.inbox = [] → s.fsm = .transmitting → s.txbuf.length ≤ 139 →
    s.txbuf[s.txIdx.toNat]? = some b →
    step s = .next { s with
      chanTx := s.chanTx ++ [b], txIdx := s.txIdx + 1
      fsm := if s.txIdx.toNat + 1 < s.txbuf.length then .transmitting else .awaitingAck }

/-- R103, R104, T17, T19: the second header byte is `ack_len`, and starts an empty payload; with 0 the exchange is over in
the same step, GetHelp with an empty list and any other command unknown (R105, R110), a chunk as an unknown one (R123,
R124); every payload byte but the last is appended. A draw that State does not list is free (log entry 3). -/
def Obligations.HeaderAndPayloadBytesAreRead : Prop :=
  ∀ (s u : State) (b : Byte), s.inbox = [] → draws (.byte b) s u →
    (s.fsm = .awaitingAck → s.ackStatus = some 0xCD → b ≠ 0 →
      step s = .next { u with fsm := .awaitingPayload, ackLen := some b, rxbuf := [], rxIdx := 0 }) ∧
    (∀ c, s.fsm = .awaitingAck → s.ackStatus = some 0xCD → b = 0 → exchangeOf c s → s.xsActive = false →
      step s = .next (
        let v := { u with ackLen := some 0, rxbuf := [], rxIdx := 0 }
        if c = .getHelp then delivered (.help []) v else reported 0 0 v)) ∧
    (s.fsm = .awaitingAck → s.ackStatus = some 0xCD → b = 0 → exchangeOf .memoryWrite s → s.xsActive = true →
      step s = .next { u with
        fsm := .pacing, ackLen := some 0, rxbuf := [], rxIdx := 0, xsAllOk := false, xsUnknown := true
        xsSent := s.xsSent + s.xsCurLen.setWidth 64, xsBase := s.xsBase + s.xsCurLen.setWidth 32 }) ∧
    (∀ l, s.fsm = .awaitingPayload → s.ackLen = some l → s.rxIdx.toNat + 1 < l.toNat →
      step s = .next { u with rxbuf := s.rxbuf ++ [b], rxIdx := s.rxIdx + 1 })

/-- R103, R104, R144, T18: a timeout ends the exchange with CHANNEL_TIMEOUT and the number of response bytes read: 0, 1,
or 2 plus the payload bytes; in a transfer with the partial result of R128. A draw that State does not list is free (log
entry 3). -/
def Obligations.TimeoutReportsBytesRead : Prop :=
  ∀ s u : State, s.inbox = [] → draws .timeout s u →
    ∀ k : Half,
      (s.fsm = .awaitingAck ∧ s.ackStatus = none ∧ k = 0 ∨
       s.fsm = .awaitingAck ∧ s.ackStatus = some 0xCD ∧ k = 1 ∨
       s.fsm = .awaitingPayload ∧ (∃ l, s.ackLen = some l ∧ s.rxIdx.toNat < l.toNat) ∧
         k.toNat = 2 + s.rxIdx.toNat) →
      (s.xsActive = false → step s = .next (ended .channelTimeout k none .aborted u)) ∧
      (s.xsActive = true → step s = .next (aborted .channelTimeout k u))

/-- R123, R124, R126, T22: the end of a chunk's exchange: AND-accumulate the status, record an unknown one, advance the
counts, enter Pacing. That it is `exec` of MemoryWrite in Decoded is the model's form (log entry 8). -/
def Obligations.ChunkResponseUpdatesTheSession : Prop :=
  ∀ (s : State) (l : Byte) (p : List Byte) (a : Word) (d : List Byte), s.fsm = .decoded → s.xsActive = true →
    s.ackLen = some l → s.rxbuf = p → p.length = l.toNat →
    exec (.memoryWrite a d) s = .next { s with
      fsm := .pacing
      xsAllOk := s.xsAllOk && (p == [1])
      xsUnknown := s.xsUnknown || !(p == [0] || p == [1])
      xsSent := s.xsSent + s.xsCurLen.setWidth 64
      xsBase := s.xsBase + s.xsCurLen.setWidth 32 }

/-- R121, R122, R127, R128, T23, T24, T25: the end of a pacing interval begins the next chunk, its length in `xs_cur_len`;
or cancels before anything of it is read or written; or ends the transfer. -/
def Obligations.PacingGoesOnCancelsOrEnds : Prop :=
  ∀ s : State, s.inbox = [] → s.fsm = .pacing →
    (s.xsSent.toNat < s.xsTotal.toNat → s.cancelLatch = false → step s = .next
      { s with fsm := .encoding, xsCurLen := BitVec.ofNat 8 (min 128 (s.xsTotal.toNat - s.xsSent.toNat)) }) ∧
    (s.xsSent.toNat < s.xsTotal.toNat → s.cancelLatch = true → step s = .next (aborted .cancelled 0 s)) ∧
    (s.xsTotal.toNat ≤ s.xsSent.toNat →
      step s = .next
        { ended (if s.xsUnknown then .unknownResponseCode else .none) 0
            (some (.transfer s.xsAllOk s.xsSent s.xsUnknown)) .idle s with
          xsActive := false, cancelLatch := false })

/-- R44, R122, T12: an image source that returns fewer bytes than asked ends the transfer with SOURCE_SHORT and their
number; nothing of the chunk is written. -/
def Obligations.ShortImageAbortsBeforeWriting : Prop :=
  ∀ s : State, s.inbox = [] → s.fsm = .encoding → s.xsCurLen.toNat ≤ 128 →
    s.imageSource.length < s.xsCurLen.toNat →
    step s = .next (aborted .sourceShort (BitVec.ofNat 16 s.imageSource.length) { s with imageSource := [] })

/-- R163: the registers after reset. -/
def Obligations.ResetValuesOfTheRegisters : Prop :=
  State.reset.toRegs =
    { fsm := .idle, req := none, err := .none, errInfo := 0, result := none, crcAcc := 0xFFFFFFFF#32
      txbuf := [], txIdx := 0, ackStatus := none, ackLen := none, rxbuf := [], rxIdx := 0
      xsBase := 0, xsTotal := 0, xsSent := 0, xsAllOk := false, xsActive := false, xsCurLen := 0
      xsUnknown := false, cancelLatch := false } ∧
  State.reset.xsChunk = 128 ∧ State.reset.statusWord = 0

/-- R162, R163, R164, R165: reset in any state gives the reset registers at once and delivers no response; what is on
the streams stays (log entry 5). -/
def Obligations.ResetInputResetsTheRegistersOnly : Prop :=
  ∀ (s : State) (rest : List Input), s.inbox = .reset :: rest →
    step s = .next { s with toRegs := State.reset.toRegs, inbox := rest }

/-! ### Invariants and whole-machine rules -/

/-- The invariant holds after reset. -/
def Obligations.InvariantHoldsAtReset : Prop := Inv State.reset

/-- Every step keeps the invariant (R29, R30, R142). -/
def Obligations.EveryStepKeepsTheInvariant : Prop :=
  ∀ s t : State, Inv s → step s = .next t → Inv t

/-- R143: the block never stops: from every state with the invariant a step answers a next state. R32: where `req` or
`ack_len` holds no value, which the invariant rules out in these places, the read of it faults: that of `ack_len` by a
command in Decoded and by the step that reads a payload byte, that of `req` by the step that ends an exchange. The
invariant is the model's (Safety.lean), and so is the command in Decoded as an instruction (log entry 8). -/
def Obligations.EveryStepAnswersANextState : Prop :=
  (∀ s : State, Inv s → ∃ t, step s = .next t) ∧
  (∀ (o : Operands) (c : Command) (s : State), s.fsm = .decoded → s.ackLen = none →
    exec (wireInstr o c) s = .fault (.unwrittenRead .ackLen)) ∧
  (∀ s : State, s.inbox = [] → s.fsm = .awaitingPayload → s.ackLen = none →
    step s = .fault (.unwrittenRead .ackLen)) ∧
  (∀ s : State, s.inbox = [] → s.fsm = .decoded → s.req = none → step s = .fault (.unwrittenRead .req))

/-- R141: `fsm` moves only along the rows of the table; reset alone goes to Idle from everywhere. -/
def Obligations.SequencerMovesByTheTable : Prop :=
  ∀ s t : State, step s = .next t →
    t.fsm ∈ successors s.fsm ∨ (s.inbox.head? = some .reset ∧ t.fsm = .idle)

/-- R47, R48: the block writes to the channel in Transmitting only, and then `txbuf[tx_idx]`; nothing else the machine
does reaches the wire but the host's own writes, which come while no request is in progress. -/
def Obligations.OnlyFrameBytesReachTheWire : Prop :=
  ∀ s t : State, step s = .next t →
    t.chanTx = s.chanTx ∨
    (s.fsm = .transmitting ∧ ∃ b, s.txbuf[s.txIdx.toNat]? = some b ∧ t.chanTx = s.chanTx ++ [b] ∧
      t.txIdx = s.txIdx + 1) ∨
    (free s ∧ ∃ bs, s.inbox.head? = some (.hostWrite bs) ∧ t.chanTx = s.chanTx ++ bs)

/-- R49: the block takes nothing from the receive stream outside AwaitingAck and AwaitingPayload, and at most one draw
in one step. That a draw is the first listed one, or one free draw that moves the draw counter by one where none is listed,
is the model's form of R43 (log entry 3). -/
def Obligations.ReadsOnlyWhileAwaiting : Prop :=
  ∀ s t : State, s.inbox = [] → step s = .next t →
    (s.fsm ≠ .awaitingAck → s.fsm ≠ .awaitingPayload → t.chanRx = s.chanRx ∧ t.drawIdx = s.drawIdx) ∧
    (t.drawIdx = s.drawIdx ∧ (t.chanRx = s.chanRx ∨ t.chanRx = s.chanRx.tail) ∨
      s.chanRx = [] ∧ t.chanRx = [] ∧ t.drawIdx = s.drawIdx + 1)

/-- R69, R143: the step that ends a request delivers its response, which is what the registers hold; no other step of
the block delivers one. -/
def Obligations.RequestEndsWithOneResponse : Prop :=
  ∀ s t : State, s.inbox = [] → step s = .next t →
    t.responses = s.responses ++
      (if s.fsm.busy = true ∧ t.fsm.busy = false then [⟨t.err, t.errInfo, t.result⟩] else [])

/-- R57, R163: after reset the opcode parameters are pairwise distinct, whatever they are, and no step, a reset among
them, changes them. -/
def Obligations.OpcodesAreDistinctAndNeverChange : Prop :=
  State.reset.opcodes.distinct ∧ ∀ s t : State, step s = .next t → t.opcodes = s.opcodes

/-- R123: once `xs_all_ok` is 0 no step of the block sets it back to 1. -/
def Obligations.FailedChunkIsNeverForgotten : Prop :=
  ∀ s t : State, s.inbox = [] → step s = .next t → s.xsAllOk = false → t.xsAllOk = false

/-- R121: the latch is read at the chunk boundary only: in any other state, setting it changes nothing in what the
block's step does but the latch itself. -/
def Obligations.LatchIsReadAtBoundariesOnly : Prop :=
  ∀ s t : State, s.inbox = [] → s.fsm ≠ .pacing → step s = .next t →
    ∃ t', step { s with cancelLatch := true } = .next t' ∧ { t' with cancelLatch := t.cancelLatch } = t

/-- R131: an aborted transfer reports a whole number of full chunks, fewer than the image's bytes, and failure. -/
def Obligations.AbortedTransferReportsFullChunks : Prop :=
  ∀ s t : State, Inv s → s.inbox = [] → s.xsActive = true → step s = .next t → t.fsm = .aborted →
    ∃ j : Nat, t.result = some (.transfer false (BitVec.ofNat 64 (128 * j)) s.xsUnknown) ∧
      128 * j < s.xsTotal.toNat ∧ t.xsAllOk = false

/-! ### Runs -/

/-- R47, R135: a frame is written whole, in order, one byte a step, and then the block waits for the header. -/
def Obligations.FrameIsWrittenWhole : Prop :=
  ∀ s : State, s.inbox = [] → s.fsm = .transmitting → s.txbuf.length ≤ 139 → s.txIdx.toNat < s.txbuf.length →
    core.run (s.txbuf.length - s.txIdx.toNat) s = .next { s with
      chanTx := s.chanTx ++ s.txbuf.drop s.txIdx.toNat
      txIdx := BitVec.ofNat 8 s.txbuf.length, fsm := .awaitingAck }

/-- R137: EXECUTE of a single-shot command, against a device that acknowledges and sends `l` payload bytes `p`, takes
one step, one for each frame byte, two for the header and one for each payload byte; it writes exactly the frame, reads
exactly `2 + l` bytes, and delivers the decoded payload. -/
def Obligations.SingleShotExchangeRunsToItsEnd : Prop :=
  ∀ (s : State) (o : Operands) (c : Command) (l : Byte) (p : List Byte) (ds : List RxDraw),
    free s → s.xsActive = false → s.inbox = [.request ⟨0x40, o⟩] → Command.ofSelector o.cmd = some c →
    c ≠ .memoryWrite → inRange o c → p.length = l.toNat →
    s.chanRx = .byte 0xCD :: .byte l :: p.map .byte ++ ds →
    ∃ t, core.run (1 + (frame s.opcodes o c).length + 2 + l.toNat) s = .next t ∧
      t.fsm = .idle ∧ t.chanTx = s.chanTx ++ frame s.opcodes o c ∧ t.chanRx = ds ∧ t.inbox = [] ∧
      t.ackStatus = some 0xCD ∧ t.ackLen = some l ∧ t.rxbuf = p ∧ t.imageSource = s.imageSource ∧
      t.result = some (.payload (decodeResponse s.opcodes c l p)) ∧
      t.responses = s.responses ++ [⟨t.err, t.errInfo, t.result⟩]

/-- R119, R131: a transfer of `L > 0` bytes against a device that acknowledges every chunk with one status byte runs
exactly `k = ceil(L / 128)` exchanges in order, `1 + 16 k + L` steps in all: chunk `i` goes to `B0 + 128 i` with the
image bytes from `128 i`, failed chunks stop nothing, and the result is (all statuses 1, L, any status unknown). -/
def Obligations.TransferRunsToItsEnd : Prop :=
  ∀ (s : State) (o : Operands) (st : List Byte) (ds : List RxDraw),
    free s → s.inbox = [.request ⟨0x50, o⟩] → 0 < o.len64.toNat →
    o.a32.toNat + o.len64.toNat ≤ 2 ^ 32 → o.len64.toNat ≤ s.imageSource.length →
    st.length = (o.len64.toNat + 127) / 128 →
    s.chanRx = (st.flatMap fun x => [.byte 0xCD, .byte 1, .byte x]) ++ ds →
    ∃ t, core.run (1 + 16 * st.length + o.len64.toNat) s = .next t ∧
      t.fsm = .idle ∧ t.xsActive = false ∧ t.inbox = [] ∧ t.chanRx = ds ∧
      t.imageSource = s.imageSource.drop o.len64.toNat ∧
      t.chanTx = s.chanTx ++ (List.range st.length).flatMap (fun i =>
        frameBytes s.opcodes.memoryWrite (memoryWritePayload (o.a32 + BitVec.ofNat 32 (128 * i))
          ((s.imageSource.drop (128 * i)).take (min 128 (o.len64.toNat - 128 * i))))) ∧
      t.responses = s.responses ++
        [⟨if st.any (fun x => x != 0 && x != 1) then .unknownResponseCode else .none, 0,
          some (.transfer (st.all (· == 1)) o.len64 (st.any fun x => x != 0 && x != 1))⟩]
end

