-- ==== Sys2Proof/Laws/State.lean ====
section
/-! SUPPORT. One lemma per field per named update of the state. -/

namespace Sys2Proof.Machine
open Sys2Proof

/-! ### chanWrite -/

@[simp] theorem chanWrite_fsm (b : Byte) (s : State) : (chanWrite b s).fsm = s.fsm := rfl
@[simp] theorem chanWrite_req (b : Byte) (s : State) : (chanWrite b s).req = s.req := rfl
@[simp] theorem chanWrite_err (b : Byte) (s : State) : (chanWrite b s).err = s.err := rfl
@[simp] theorem chanWrite_errInfo (b : Byte) (s : State) : (chanWrite b s).errInfo = s.errInfo := rfl
@[simp] theorem chanWrite_result (b : Byte) (s : State) : (chanWrite b s).result = s.result := rfl
@[simp] theorem chanWrite_crcAcc (b : Byte) (s : State) : (chanWrite b s).crcAcc = s.crcAcc := rfl
@[simp] theorem chanWrite_txbuf (b : Byte) (s : State) : (chanWrite b s).txbuf = s.txbuf := rfl
@[simp] theorem chanWrite_txIdx (b : Byte) (s : State) : (chanWrite b s).txIdx = s.txIdx := rfl
@[simp] theorem chanWrite_ackStatus (b : Byte) (s : State) : (chanWrite b s).ackStatus = s.ackStatus := rfl
@[simp] theorem chanWrite_ackLen (b : Byte) (s : State) : (chanWrite b s).ackLen = s.ackLen := rfl
@[simp] theorem chanWrite_rxbuf (b : Byte) (s : State) : (chanWrite b s).rxbuf = s.rxbuf := rfl
@[simp] theorem chanWrite_rxIdx (b : Byte) (s : State) : (chanWrite b s).rxIdx = s.rxIdx := rfl
@[simp] theorem chanWrite_xsBase (b : Byte) (s : State) : (chanWrite b s).xsBase = s.xsBase := rfl
@[simp] theorem chanWrite_xsTotal (b : Byte) (s : State) : (chanWrite b s).xsTotal = s.xsTotal := rfl
@[simp] theorem chanWrite_xsSent (b : Byte) (s : State) : (chanWrite b s).xsSent = s.xsSent := rfl
@[simp] theorem chanWrite_xsAllOk (b : Byte) (s : State) : (chanWrite b s).xsAllOk = s.xsAllOk := rfl
@[simp] theorem chanWrite_xsActive (b : Byte) (s : State) : (chanWrite b s).xsActive = s.xsActive := rfl
@[simp] theorem chanWrite_xsCurLen (b : Byte) (s : State) : (chanWrite b s).xsCurLen = s.xsCurLen := rfl
@[simp] theorem chanWrite_xsUnknown (b : Byte) (s : State) : (chanWrite b s).xsUnknown = s.xsUnknown := rfl
@[simp] theorem chanWrite_cancelLatch (b : Byte) (s : State) : (chanWrite b s).cancelLatch = s.cancelLatch := rfl
@[simp] theorem chanWrite_chanTx (b : Byte) (s : State) : (chanWrite b s).chanTx = s.chanTx ++ [b] := rfl
@[simp] theorem chanWrite_chanRx (b : Byte) (s : State) : (chanWrite b s).chanRx = s.chanRx := rfl
@[simp] theorem chanWrite_imageSource (b : Byte) (s : State) : (chanWrite b s).imageSource = s.imageSource := rfl
@[simp] theorem chanWrite_responses (b : Byte) (s : State) : (chanWrite b s).responses = s.responses := rfl
@[simp] theorem chanWrite_inbox (b : Byte) (s : State) : (chanWrite b s).inbox = s.inbox := rfl
@[simp] theorem chanWrite_drawIdx (b : Byte) (s : State) : (chanWrite b s).drawIdx = s.drawIdx := rfl
@[simp] theorem chanWrite_opcodes (b : Byte) (s : State) : (chanWrite b s).opcodes = s.opcodes := rfl

/-! ### endRequest -/

@[simp] theorem endRequest_fsm (e : ErrCode) (info : Half) (r : Option Result) (s : State) :
    (endRequest e info r s).fsm = if e.fatal then .aborted else .idle := rfl
@[simp] theorem endRequest_req (e : ErrCode) (info : Half) (r : Option Result) (s : State) :
    (endRequest e info r s).req = s.req := rfl
@[simp] theorem endRequest_err (e : ErrCode) (info : Half) (r : Option Result) (s : State) :
    (endRequest e info r s).err = e := rfl
@[simp] theorem endRequest_errInfo (e : ErrCode) (info : Half) (r : Option Result) (s : State) :
    (endRequest e info r s).errInfo = info := rfl
@[simp] theorem endRequest_result (e : ErrCode) (info : Half) (r : Option Result) (s : State) :
    (endRequest e info r s).result = r := rfl
@[simp] theorem endRequest_crcAcc (e : ErrCode) (info : Half) (r : Option Result) (s : State) :
    (endRequest e info r s).crcAcc = s.crcAcc := rfl
@[simp] theorem endRequest_txbuf (e : ErrCode) (info : Half) (r : Option Result) (s : State) :
    (endRequest e info r s).txbuf = s.txbuf := rfl
@[simp] theorem endRequest_txIdx (e : ErrCode) (info : Half) (r : Option Result) (s : State) :
    (endRequest e info r s).txIdx = s.txIdx := rfl
@[simp] theorem endRequest_ackStatus (e : ErrCode) (info : Half) (r : Option Result) (s : State) :
    (endRequest e info r s).ackStatus = s.ackStatus := rfl
@[simp] theorem endRequest_ackLen (e : ErrCode) (info : Half) (r : Option Result) (s : State) :
    (endRequest e info r s).ackLen = s.ackLen := rfl
@[simp] theorem endRequest_rxbuf (e : ErrCode) (info : Half) (r : Option Result) (s : State) :
    (endRequest e info r s).rxbuf = s.rxbuf := rfl
@[simp] theorem endRequest_rxIdx (e : ErrCode) (info : Half) (r : Option Result) (s : State) :
    (endRequest e info r s).rxIdx = s.rxIdx := rfl
@[simp] theorem endRequest_xsBase (e : ErrCode) (info : Half) (r : Option Result) (s : State) :
    (endRequest e info r s).xsBase = s.xsBase := rfl
@[simp] theorem endRequest_xsTotal (e : ErrCode) (info : Half) (r : Option Result) (s : State) :
    (endRequest e info r s).xsTotal = s.xsTotal := rfl
@[simp] theorem endRequest_xsSent (e : ErrCode) (info : Half) (r : Option Result) (s : State) :
    (endRequest e info r s).xsSent = s.xsSent := rfl
@[simp] theorem endRequest_xsAllOk (e : ErrCode) (info : Half) (r : Option Result) (s : State) :
    (endRequest e info r s).xsAllOk = s.xsAllOk := rfl
@[simp] theorem endRequest_xsActive (e : ErrCode) (info : Half) (r : Option Result) (s : State) :
    (endRequest e info r s).xsActive = s.xsActive := rfl
@[simp] theorem endRequest_xsCurLen (e : ErrCode) (info : Half) (r : Option Result) (s : State) :
    (endRequest e info r s).xsCurLen = s.xsCurLen := rfl
@[simp] theorem endRequest_xsUnknown (e : ErrCode) (info : Half) (r : Option Result) (s : State) :
    (endRequest e info r s).xsUnknown = s.xsUnknown := rfl
@[simp] theorem endRequest_cancelLatch (e : ErrCode) (info : Half) (r : Option Result) (s : State) :
    (endRequest e info r s).cancelLatch = s.cancelLatch := rfl
@[simp] theorem endRequest_chanTx (e : ErrCode) (info : Half) (r : Option Result) (s : State) :
    (endRequest e info r s).chanTx = s.chanTx := rfl
@[simp] theorem endRequest_chanRx (e : ErrCode) (info : Half) (r : Option Result) (s : State) :
    (endRequest e info r s).chanRx = s.chanRx := rfl
@[simp] theorem endRequest_imageSource (e : ErrCode) (info : Half) (r : Option Result) (s : State) :
    (endRequest e info r s).imageSource = s.imageSource := rfl
@[simp] theorem endRequest_responses (e : ErrCode) (info : Half) (r : Option Result) (s : State) :
    (endRequest e info r s).responses = s.responses ++ [⟨e, info, r⟩] := rfl
@[simp] theorem endRequest_inbox (e : ErrCode) (info : Half) (r : Option Result) (s : State) :
    (endRequest e info r s).inbox = s.inbox := rfl
@[simp] theorem endRequest_drawIdx (e : ErrCode) (info : Half) (r : Option Result) (s : State) :
    (endRequest e info r s).drawIdx = s.drawIdx := rfl
@[simp] theorem endRequest_opcodes (e : ErrCode) (info : Half) (r : Option Result) (s : State) :
    (endRequest e info r s).opcodes = s.opcodes := rfl

/-! ### clearExchange -/

@[simp] theorem clearExchange_fsm (s : State) :
    (clearExchange s).fsm = if s.fsm = .aborted then .idle else s.fsm := rfl
@[simp] theorem clearExchange_req (s : State) : (clearExchange s).req = s.req := rfl
@[simp] theorem clearExchange_err (s : State) : (clearExchange s).err = .none := rfl
@[simp] theorem clearExchange_errInfo (s : State) : (clearExchange s).errInfo = 0 := rfl
@[simp] theorem clearExchange_result (s : State) : (clearExchange s).result = s.result := rfl
@[simp] theorem clearExchange_crcAcc (s : State) : (clearExchange s).crcAcc = s.crcAcc := rfl
@[simp] theorem clearExchange_txbuf (s : State) : (clearExchange s).txbuf = [] := rfl
@[simp] theorem clearExchange_txIdx (s : State) : (clearExchange s).txIdx = 0 := rfl
@[simp] theorem clearExchange_ackStatus (s : State) : (clearExchange s).ackStatus = none := rfl
@[simp] theorem clearExchange_ackLen (s : State) : (clearExchange s).ackLen = none := rfl
@[simp] theorem clearExchange_rxbuf (s : State) : (clearExchange s).rxbuf = [] := rfl
@[simp] theorem clearExchange_rxIdx (s : State) : (clearExchange s).rxIdx = 0 := rfl
@[simp] theorem clearExchange_xsBase (s : State) : (clearExchange s).xsBase = s.xsBase := rfl
@[simp] theorem clearExchange_xsTotal (s : State) : (clearExchange s).xsTotal = s.xsTotal := rfl
@[simp] theorem clearExchange_xsSent (s : State) : (clearExchange s).xsSent = s.xsSent := rfl
@[simp] theorem clearExchange_xsAllOk (s : State) : (clearExchange s).xsAllOk = s.xsAllOk := rfl
@[simp] theorem clearExchange_xsActive (s : State) : (clearExchange s).xsActive = s.xsActive := rfl
@[simp] theorem clearExchange_xsCurLen (s : State) : (clearExchange s).xsCurLen = s.xsCurLen := rfl
@[simp] theorem clearExchange_xsUnknown (s : State) : (clearExchange s).xsUnknown = s.xsUnknown := rfl
@[simp] theorem clearExchange_cancelLatch (s : State) : (clearExchange s).cancelLatch = s.cancelLatch := rfl
@[simp] theorem clearExchange_chanTx (s : State) : (clearExchange s).chanTx = s.chanTx := rfl
@[simp] theorem clearExchange_chanRx (s : State) : (clearExchange s).chanRx = s.chanRx := rfl
@[simp] theorem clearExchange_imageSource (s : State) : (clearExchange s).imageSource = s.imageSource := rfl
@[simp] theorem clearExchange_responses (s : State) : (clearExchange s).responses = s.responses := rfl
@[simp] theorem clearExchange_inbox (s : State) : (clearExchange s).inbox = s.inbox := rfl
@[simp] theorem clearExchange_drawIdx (s : State) : (clearExchange s).drawIdx = s.drawIdx := rfl
@[simp] theorem clearExchange_opcodes (s : State) : (clearExchange s).opcodes = s.opcodes := rfl

/-! ### accept -/

@[simp] theorem accept_fsm (q : Request) (s : State) :
    (accept q s).fsm = if s.fsm = .aborted then .idle else s.fsm := by unfold accept; split <;> rfl
@[simp] theorem accept_req (q : Request) (s : State) : (accept q s).req = some q := by unfold accept; split <;> rfl
@[simp] theorem accept_err (q : Request) (s : State) : (accept q s).err = .none := by unfold accept; split <;> rfl
@[simp] theorem accept_errInfo (q : Request) (s : State) : (accept q s).errInfo = 0 := by unfold accept; split <;> rfl
@[simp] theorem accept_result (q : Request) (s : State) :
    (accept q s).result = s.result := by unfold accept; split <;> rfl
@[simp] theorem accept_crcAcc (q : Request) (s : State) :
    (accept q s).crcAcc = s.crcAcc := by unfold accept; split <;> rfl
@[simp] theorem accept_txbuf (q : Request) (s : State) : (accept q s).txbuf = [] := by unfold accept; split <;> rfl
@[simp] theorem accept_txIdx (q : Request) (s : State) : (accept q s).txIdx = 0 := by unfold accept; split <;> rfl
@[simp] theorem accept_ackStatus (q : Request) (s : State) :
    (accept q s).ackStatus = none := by unfold accept; split <;> rfl
@[simp] theorem accept_ackLen (q : Request) (s : State) :
    (accept q s).ackLen = none := by unfold accept; split <;> rfl
@[simp] theorem accept_rxbuf (q : Request) (s : State) : (accept q s).rxbuf = [] := by unfold accept; split <;> rfl
@[simp] theorem accept_rxIdx (q : Request) (s : State) : (accept q s).rxIdx = 0 := by unfold accept; split <;> rfl
@[simp] theorem accept_xsBase (q : Request) (s : State) :
    (accept q s).xsBase = s.xsBase := by unfold accept; split <;> rfl
@[simp] theorem accept_xsTotal (q : Request) (s : State) :
    (accept q s).xsTotal = s.xsTotal := by unfold accept; split <;> rfl
@[simp] theorem accept_xsSent (q : Request) (s : State) :
    (accept q s).xsSent = s.xsSent := by unfold accept; split <;> rfl
@[simp] theorem accept_xsAllOk (q : Request) (s : State) :
    (accept q s).xsAllOk = s.xsAllOk := by unfold accept; split <;> rfl
@[simp] theorem accept_xsActive (q : Request) (s : State) :
    (accept q s).xsActive = s.xsActive := by unfold accept; split <;> rfl
@[simp] theorem accept_xsCurLen (q : Request) (s : State) :
    (accept q s).xsCurLen = s.xsCurLen := by unfold accept; split <;> rfl
@[simp] theorem accept_xsUnknown (q : Request) (s : State) :
    (accept q s).xsUnknown = s.xsUnknown := by unfold accept; split <;> rfl
@[simp] theorem accept_cancelLatch (q : Request) (s : State) :
    (accept q s).cancelLatch = if q.code = 0x50#8 ∨ q.code = 0x40#8 then false else s.cancelLatch := by
  unfold accept; split <;> rfl
@[simp] theorem accept_chanTx (q : Request) (s : State) :
    (accept q s).chanTx = s.chanTx := by unfold accept; split <;> rfl
@[simp] theorem accept_chanRx (q : Request) (s : State) :
    (accept q s).chanRx = s.chanRx := by unfold accept; split <;> rfl
@[simp] theorem accept_imageSource (q : Request) (s : State) :
    (accept q s).imageSource = s.imageSource := by unfold accept; split <;> rfl
@[simp] theorem accept_responses (q : Request) (s : State) :
    (accept q s).responses = s.responses := by unfold accept; split <;> rfl
@[simp] theorem accept_inbox (q : Request) (s : State) :
    (accept q s).inbox = s.inbox := by unfold accept; split <;> rfl
@[simp] theorem accept_drawIdx (q : Request) (s : State) :
    (accept q s).drawIdx = s.drawIdx := by unfold accept; split <;> rfl
@[simp] theorem accept_opcodes (q : Request) (s : State) :
    (accept q s).opcodes = s.opcodes := by unfold accept; split <;> rfl

/-! ### buildFrame -/

@[simp] theorem buildFrame_fsm (opc : Byte) (pl : List Byte) (s : State) : (buildFrame opc pl s).fsm = s.fsm := rfl
@[simp] theorem buildFrame_req (opc : Byte) (pl : List Byte) (s : State) : (buildFrame opc pl s).req = s.req := rfl
@[simp] theorem buildFrame_err (opc : Byte) (pl : List Byte) (s : State) : (buildFrame opc pl s).err = s.err := rfl
@[simp] theorem buildFrame_errInfo (opc : Byte) (pl : List Byte) (s : State) :
    (buildFrame opc pl s).errInfo = s.errInfo := rfl
@[simp] theorem buildFrame_result (opc : Byte) (pl : List Byte) (s : State) :
    (buildFrame opc pl s).result = s.result := rfl
@[simp] theorem buildFrame_crcAcc (opc : Byte) (pl : List Byte) (s : State) :
    (buildFrame opc pl s).crcAcc = crc32 (frameBody opc pl) := rfl
@[simp] theorem buildFrame_txbuf (opc : Byte) (pl : List Byte) (s : State) :
    (buildFrame opc pl s).txbuf = frameBytes opc pl := rfl
@[simp] theorem buildFrame_txIdx (opc : Byte) (pl : List Byte) (s : State) : (buildFrame opc pl s).txIdx = 0 := rfl
@[simp] theorem buildFrame_ackStatus (opc : Byte) (pl : List Byte) (s : State) :
    (buildFrame opc pl s).ackStatus = s.ackStatus := rfl
@[simp] theorem buildFrame_ackLen (opc : Byte) (pl : List Byte) (s : State) :
    (buildFrame opc pl s).ackLen = s.ackLen := rfl
@[simp] theorem buildFrame_rxbuf (opc : Byte) (pl : List Byte) (s : State) :
    (buildFrame opc pl s).rxbuf = s.rxbuf := rfl
@[simp] theorem buildFrame_rxIdx (opc : Byte) (pl : List Byte) (s : State) :
    (buildFrame opc pl s).rxIdx = s.rxIdx := rfl
@[simp] theorem buildFrame_xsBase (opc : Byte) (pl : List Byte) (s : State) :
    (buildFrame opc pl s).xsBase = s.xsBase := rfl
@[simp] theorem buildFrame_xsTotal (opc : Byte) (pl : List Byte) (s : State) :
    (buildFrame opc pl s).xsTotal = s.xsTotal := rfl
@[simp] theorem buildFrame_xsSent (opc : Byte) (pl : List Byte) (s : State) :
    (buildFrame opc pl s).xsSent = s.xsSent := rfl
@[simp] theorem buildFrame_xsAllOk (opc : Byte) (pl : List Byte) (s : State) :
    (buildFrame opc pl s).xsAllOk = s.xsAllOk := rfl
@[simp] theorem buildFrame_xsActive (opc : Byte) (pl : List Byte) (s : State) :
    (buildFrame opc pl s).xsActive = s.xsActive := rfl
@[simp] theorem buildFrame_xsCurLen (opc : Byte) (pl : List Byte) (s : State) :
    (buildFrame opc pl s).xsCurLen = s.xsCurLen := rfl
@[simp] theorem buildFrame_xsUnknown (opc : Byte) (pl : List Byte) (s : State) :
    (buildFrame opc pl s).xsUnknown = s.xsUnknown := rfl
@[simp] theorem buildFrame_cancelLatch (opc : Byte) (pl : List Byte) (s : State) :
    (buildFrame opc pl s).cancelLatch = s.cancelLatch := rfl
@[simp] theorem buildFrame_chanTx (opc : Byte) (pl : List Byte) (s : State) :
    (buildFrame opc pl s).chanTx = s.chanTx := rfl
@[simp] theorem buildFrame_chanRx (opc : Byte) (pl : List Byte) (s : State) :
    (buildFrame opc pl s).chanRx = s.chanRx := rfl
@[simp] theorem buildFrame_imageSource (opc : Byte) (pl : List Byte) (s : State) :
    (buildFrame opc pl s).imageSource = s.imageSource := rfl
@[simp] theorem buildFrame_responses (opc : Byte) (pl : List Byte) (s : State) :
    (buildFrame opc pl s).responses = s.responses := rfl
@[simp] theorem buildFrame_inbox (opc : Byte) (pl : List Byte) (s : State) :
    (buildFrame opc pl s).inbox = s.inbox := rfl
@[simp] theorem buildFrame_drawIdx (opc : Byte) (pl : List Byte) (s : State) :
    (buildFrame opc pl s).drawIdx = s.drawIdx := rfl
@[simp] theorem buildFrame_opcodes (opc : Byte) (pl : List Byte) (s : State) :
    (buildFrame opc pl s).opcodes = s.opcodes := rfl

/-! ### beginTransmit -/

@[simp] theorem beginTransmit_fsm (s : State) : (beginTransmit s).fsm = .transmitting := rfl
@[simp] theorem beginTransmit_req (s : State) : (beginTransmit s).req = s.req := rfl
@[simp] theorem beginTransmit_err (s : State) : (beginTransmit s).err = s.err := rfl
@[simp] theorem beginTransmit_errInfo (s : State) : (beginTransmit s).errInfo = s.errInfo := rfl
@[simp] theorem beginTransmit_result (s : State) : (beginTransmit s).result = s.result := rfl
@[simp] theorem beginTransmit_crcAcc (s : State) : (beginTransmit s).crcAcc = s.crcAcc := rfl
@[simp] theorem beginTransmit_txbuf (s : State) : (beginTransmit s).txbuf = s.txbuf := rfl
@[simp] theorem beginTransmit_txIdx (s : State) : (beginTransmit s).txIdx = s.txIdx := rfl
@[simp] theorem beginTransmit_ackStatus (s : State) : (beginTransmit s).ackStatus = none := rfl
@[simp] theorem beginTransmit_ackLen (s : State) : (beginTransmit s).ackLen = none := rfl
@[simp] theorem beginTransmit_rxbuf (s : State) : (beginTransmit s).rxbuf = s.rxbuf := rfl
@[simp] theorem beginTransmit_rxIdx (s : State) : (beginTransmit s).rxIdx = s.rxIdx := rfl
@[simp] theorem beginTransmit_xsBase (s : State) : (beginTransmit s).xsBase = s.xsBase := rfl
@[simp] theorem beginTransmit_xsTotal (s : State) : (beginTransmit s).xsTotal = s.xsTotal := rfl
@[simp] theorem beginTransmit_xsSent (s : State) : (beginTransmit s).xsSent = s.xsSent := rfl
@[simp] theorem beginTransmit_xsAllOk (s : State) : (beginTransmit s).xsAllOk = s.xsAllOk := rfl
@[simp] theorem beginTransmit_xsActive (s : State) : (beginTransmit s).xsActive = s.xsActive := rfl
@[simp] theorem beginTransmit_xsCurLen (s : State) : (beginTransmit s).xsCurLen = s.xsCurLen := rfl
@[simp] theorem beginTransmit_xsUnknown (s : State) : (beginTransmit s).xsUnknown = s.xsUnknown := rfl
@[simp] theorem beginTransmit_cancelLatch (s : State) : (beginTransmit s).cancelLatch = s.cancelLatch := rfl
@[simp] theorem beginTransmit_chanTx (s : State) : (beginTransmit s).chanTx = s.chanTx := rfl
@[simp] theorem beginTransmit_chanRx (s : State) : (beginTransmit s).chanRx = s.chanRx := rfl
@[simp] theorem beginTransmit_imageSource (s : State) : (beginTransmit s).imageSource = s.imageSource := rfl
@[simp] theorem beginTransmit_responses (s : State) : (beginTransmit s).responses = s.responses := rfl
@[simp] theorem beginTransmit_inbox (s : State) : (beginTransmit s).inbox = s.inbox := rfl
@[simp] theorem beginTransmit_drawIdx (s : State) : (beginTransmit s).drawIdx = s.drawIdx := rfl
@[simp] theorem beginTransmit_opcodes (s : State) : (beginTransmit s).opcodes = s.opcodes := rfl

/-! ### chunkBegin -/

@[simp] theorem chunkBegin_fsm (s : State) : (chunkBegin s).fsm = .encoding := rfl
@[simp] theorem chunkBegin_req (s : State) : (chunkBegin s).req = s.req := rfl
@[simp] theorem chunkBegin_err (s : State) : (chunkBegin s).err = s.err := rfl
@[simp] theorem chunkBegin_errInfo (s : State) : (chunkBegin s).errInfo = s.errInfo := rfl
@[simp] theorem chunkBegin_result (s : State) : (chunkBegin s).result = s.result := rfl
@[simp] theorem chunkBegin_crcAcc (s : State) : (chunkBegin s).crcAcc = s.crcAcc := rfl
@[simp] theorem chunkBegin_txbuf (s : State) : (chunkBegin s).txbuf = s.txbuf := rfl
@[simp] theorem chunkBegin_txIdx (s : State) : (chunkBegin s).txIdx = s.txIdx := rfl
@[simp] theorem chunkBegin_ackStatus (s : State) : (chunkBegin s).ackStatus = s.ackStatus := rfl
@[simp] theorem chunkBegin_ackLen (s : State) : (chunkBegin s).ackLen = s.ackLen := rfl
@[simp] theorem chunkBegin_rxbuf (s : State) : (chunkBegin s).rxbuf = s.rxbuf := rfl
@[simp] theorem chunkBegin_rxIdx (s : State) : (chunkBegin s).rxIdx = s.rxIdx := rfl
@[simp] theorem chunkBegin_xsBase (s : State) : (chunkBegin s).xsBase = s.xsBase := rfl
@[simp] theorem chunkBegin_xsTotal (s : State) : (chunkBegin s).xsTotal = s.xsTotal := rfl
@[simp] theorem chunkBegin_xsSent (s : State) : (chunkBegin s).xsSent = s.xsSent := rfl
@[simp] theorem chunkBegin_xsAllOk (s : State) : (chunkBegin s).xsAllOk = s.xsAllOk := rfl
@[simp] theorem chunkBegin_xsActive (s : State) : (chunkBegin s).xsActive = s.xsActive := rfl
@[simp] theorem chunkBegin_xsCurLen (s : State) : (chunkBegin s).xsCurLen = BitVec.ofNat 8 (chunkLength s) := rfl
@[simp] theorem chunkBegin_xsUnknown (s : State) : (chunkBegin s).xsUnknown = s.xsUnknown := rfl
@[simp] theorem chunkBegin_cancelLatch (s : State) : (chunkBegin s).cancelLatch = s.cancelLatch := rfl
@[simp] theorem chunkBegin_chanTx (s : State) : (chunkBegin s).chanTx = s.chanTx := rfl
@[simp] theorem chunkBegin_chanRx (s : State) : (chunkBegin s).chanRx = s.chanRx := rfl
@[simp] theorem chunkBegin_imageSource (s : State) : (chunkBegin s).imageSource = s.imageSource := rfl
@[simp] theorem chunkBegin_responses (s : State) : (chunkBegin s).responses = s.responses := rfl
@[simp] theorem chunkBegin_inbox (s : State) : (chunkBegin s).inbox = s.inbox := rfl
@[simp] theorem chunkBegin_drawIdx (s : State) : (chunkBegin s).drawIdx = s.drawIdx := rfl
@[simp] theorem chunkBegin_opcodes (s : State) : (chunkBegin s).opcodes = s.opcodes := rfl

/-! ### xferStart -/

@[simp] theorem xferStart_fsm (b0 : Word) (l : DWord) (s : State) : (xferStart b0 l s).fsm = s.fsm := rfl
@[simp] theorem xferStart_req (b0 : Word) (l : DWord) (s : State) : (xferStart b0 l s).req = s.req := rfl
@[simp] theorem xferStart_err (b0 : Word) (l : DWord) (s : State) : (xferStart b0 l s).err = s.err := rfl
@[simp] theorem xferStart_errInfo (b0 : Word) (l : DWord) (s : State) : (xferStart b0 l s).errInfo = s.errInfo := rfl
@[simp] theorem xferStart_result (b0 : Word) (l : DWord) (s : State) : (xferStart b0 l s).result = s.result := rfl
@[simp] theorem xferStart_crcAcc (b0 : Word) (l : DWord) (s : State) : (xferStart b0 l s).crcAcc = s.crcAcc := rfl
@[simp] theorem xferStart_txbuf (b0 : Word) (l : DWord) (s : State) : (xferStart b0 l s).txbuf = s.txbuf := rfl
@[simp] theorem xferStart_txIdx (b0 : Word) (l : DWord) (s : State) : (xferStart b0 l s).txIdx = s.txIdx := rfl
@[simp] theorem xferStart_ackStatus (b0 : Word) (l : DWord) (s : State) :
    (xferStart b0 l s).ackStatus = s.ackStatus := rfl
@[simp] theorem xferStart_ackLen (b0 : Word) (l : DWord) (s : State) : (xferStart b0 l s).ackLen = s.ackLen := rfl
@[simp] theorem xferStart_rxbuf (b0 : Word) (l : DWord) (s : State) : (xferStart b0 l s).rxbuf = s.rxbuf := rfl
@[simp] theorem xferStart_rxIdx (b0 : Word) (l : DWord) (s : State) : (xferStart b0 l s).rxIdx = s.rxIdx := rfl
@[simp] theorem xferStart_xsBase (b0 : Word) (l : DWord) (s : State) : (xferStart b0 l s).xsBase = b0 := rfl
@[simp] theorem xferStart_xsTotal (b0 : Word) (l : DWord) (s : State) : (xferStart b0 l s).xsTotal = l := rfl
@[simp] theorem xferStart_xsSent (b0 : Word) (l : DWord) (s : State) : (xferStart b0 l s).xsSent = 0 := rfl
@[simp] theorem xferStart_xsAllOk (b0 : Word) (l : DWord) (s : State) : (xferStart b0 l s).xsAllOk = true := rfl
@[simp] theorem xferStart_xsActive (b0 : Word) (l : DWord) (s : State) : (xferStart b0 l s).xsActive = true := rfl
@[simp] theorem xferStart_xsCurLen (b0 : Word) (l : DWord) (s : State) : (xferStart b0 l s).xsCurLen = 0 := rfl
@[simp] theorem xferStart_xsUnknown (b0 : Word) (l : DWord) (s : State) : (xferStart b0 l s).xsUnknown = false := rfl
@[simp] theorem xferStart_cancelLatch (b0 : Word) (l : DWord) (s : State) :
    (xferStart b0 l s).cancelLatch = s.cancelLatch := rfl
@[simp] theorem xferStart_chanTx (b0 : Word) (l : DWord) (s : State) : (xferStart b0 l s).chanTx = s.chanTx := rfl
@[simp] theorem xferStart_chanRx (b0 : Word) (l : DWord) (s : State) : (xferStart b0 l s).chanRx = s.chanRx := rfl
@[simp] theorem xferStart_imageSource (b0 : Word) (l : DWord) (s : State) :
    (xferStart b0 l s).imageSource = s.imageSource := rfl
@[simp] theorem xferStart_responses (b0 : Word) (l : DWord) (s : State) :
    (xferStart b0 l s).responses = s.responses := rfl
@[simp] theorem xferStart_inbox (b0 : Word) (l : DWord) (s : State) : (xferStart b0 l s).inbox = s.inbox := rfl
@[simp] theorem xferStart_drawIdx (b0 : Word) (l : DWord) (s : State) : (xferStart b0 l s).drawIdx = s.drawIdx := rfl
@[simp] theorem xferStart_opcodes (b0 : Word) (l : DWord) (s : State) : (xferStart b0 l s).opcodes = s.opcodes := rfl

end Sys2Proof.Machine
end

