-- ==== Sys2Proof/Laws/Ops.lean ====
section
/-! SUPPORT. What each shared operation can do, said once: the stream reads, issuing a request, building a frame, the
loop head of a transfer, the ends of an exchange, a step. -/

namespace Sys2Proof.Machine
open Sys2Proof

/-! ### Frames and the codec -/

@[simp] theorem split32_length (v : Word) : (split32 v).length = 4 := rfl

/-- `byte(v, i)` is a field of the word (R81). -/
theorem byteOf_eq (v : Word) (i : Nat) : byteOf v i = v.extractLsb' (8 * (i - 1)) 8 := by
  ext k hk
  have h : (0xFF#8).getLsbD k = true := by interval_cases k <;> rfl
  simp [byteOf, hk, ← BitVec.getLsbD_eq_getElem, h]

/-- `split32` in fields of the word, low byte first (R81). -/
theorem split32_eq (v : Word) :
    split32 v = [v.extractLsb' 0 8, v.extractLsb' 8 8, v.extractLsb' 16 8, v.extractLsb' 24 8] := by
  simp [split32, byteOf_eq]

/-- `join32` is concatenation, the last byte on top (R82). -/
theorem join32_eq (b1 b2 b3 b4 : Byte) : join32 b1 b2 b3 b4 = b4 ++ b3 ++ b2 ++ b1 := by
  apply BitVec.eq_of_getLsbD_eq
  intro k hk
  have h : (b4 ++ b3 ++ b2 ++ b1 : BitVec (8 + 8 + 8 + 8)).getLsbD k =
      if k < 8 then b1.getLsbD k else if k - 8 < 8 then b2.getLsbD (k - 8)
      else if k - 8 - 8 < 8 then b3.getLsbD (k - 8 - 8) else b4.getLsbD (k - 8 - 8 - 8) := by
    simp only [BitVec.getLsbD_append]
  refine Eq.trans ?_ h.symm
  unfold join32
  interval_cases k <;> simp

@[simp] theorem frameBody_length (opc : Byte) (pl : List Byte) : (frameBody opc pl).length = pl.length + 2 := rfl

@[simp] theorem frameBytes_length (opc : Byte) (pl : List Byte) : (frameBytes opc pl).length = pl.length + 6 := by
  simp [frameBytes]

@[simp] theorem memoryWritePayload_length (a : Word) (d : List Byte) :
    (memoryWritePayload a d).length = d.length + 5 := by
  simp [memoryWritePayload]; omega

/-- `build_frame` writes the CRC, the frame and the index, and nothing else (R89). -/
theorem buildFrame_eq (opc : Byte) (pl : List Byte) (s : State) :
    buildFrame opc pl s =
      { s with crcAcc := crc32 (frameBody opc pl), txbuf := frameBytes opc pl, txIdx := 0 } := rfl

/-- Every payload the encoder makes of operands that pass their check fits a frame (R89: 0 to 133 bytes). -/
theorem framePayload_length_le (c : Command) (o : Operands) (h : operandFault c o = none) :
    (framePayload c o).length ≤ 133 := by
  cases c <;> simp [framePayload, operandFault, chunkLengthOk] at *; omega

/-! ### Streams -/

/-- A ChanRead takes the head of the receive stream, or a free draw when none is listed. -/
theorem chanRead_cases (s : State) :
    (∃ d ds, s.chanRx = d :: ds ∧ chanRead s = (d, { s with chanRx := ds })) ∨
    (s.chanRx = [] ∧ chanRead s = (Config.deviceDraw s.drawIdx, { s with drawIdx := s.drawIdx + 1 })) := by
  unfold chanRead
  cases h : s.chanRx with
  | nil => exact .inr ⟨rfl, rfl⟩
  | cons d ds => exact .inl ⟨d, ds, rfl, rfl⟩

/-- A ChanRead changes the receive stream and the draw counter only. -/
theorem chanRead_frame (s : State) :
    ∃ d ds n, chanRead s = (d, { s with chanRx := ds, drawIdx := n }) := by
  rcases chanRead_cases s with ⟨d, ds, _, h⟩ | ⟨h0, h⟩
  · exact ⟨d, ds, s.drawIdx, h⟩
  · exact ⟨_, s.chanRx, _, h⟩

/-! ### Registers that may hold no value -/

/-- A register that holds a value is read (R32). -/
@[simp] theorem readHeld_some {α : Type} (r : NamedReg) (x : α) (k : α → Out) : readHeld r (some x) k = k x := rfl

/-- A register that holds none is not (R32). -/
@[simp] theorem readHeld_none {α : Type} (r : NamedReg) (k : α → Out) :
    readHeld r none k = .fault (.unwrittenRead r) := rfl

/-- What follows the read of a register in a next state had a value to read. -/
theorem readHeld_next {α : Type} {r : NamedReg} {v : Option α} {k : α → Out} {t : State}
    (h : readHeld r v k = .next t) : ∃ x, v = some x ∧ k x = .next t := by
  cases v with
  | none => cases h
  | some x => exact ⟨x, rfl, h⟩

/-! ### Issuing a request -/

theorem issue_of_free {q : Request} {rule : State → Out} {s : State} (h : s.fsm.busy = false) :
    issue q rule s = rule (accept q s) := by simp [issue, h]

theorem issue_of_busy {q : Request} {rule : State → Out} {s : State} (h : s.fsm.busy = true) :
    issue q rule s = .next s := by simp [issue, h]

/-- A sequencer that is not busy is in Idle or Aborted. -/
theorem busy_eq_false {f : Fsm} : f.busy = false ↔ f = .idle ∨ f = .aborted := by cases f <;> simp [Fsm.busy]

/-- Acceptance leaves the sequencer in Idle. -/
theorem accept_fsm_of_free {q : Request} {s : State} (h : s.fsm.busy = false) : (accept q s).fsm = .idle := by
  rcases busy_eq_false.1 h with h | h <;> simp [h]

/-- Acceptance as one update (R133). -/
theorem accept_of_free {q : Request} {s : State} (h : s.fsm.busy = false) :
    accept q s = { s with
      fsm := .idle, req := some q, err := .none, errInfo := 0
      txbuf := [], txIdx := 0, ackStatus := none, ackLen := none, rxbuf := [], rxIdx := 0
      cancelLatch := if q.code = 0x50#8 ∨ q.code = 0x40#8 then false else s.cancelLatch } := by
  have : (if s.fsm = .aborted then Fsm.idle else s.fsm) = .idle := by
    rcases busy_eq_false.1 h with h | h <;> simp [h]
  unfold accept clearExchange
  rw [this]
  split <;> simp_all

/-! ### Transfers -/

/-- The loop head of a transfer cancels, goes on, or ends (R119, R121, R127). -/
theorem xferNext_cases (s : State) :
    (s.xsSent.toNat < s.xsTotal.toNat ∧ s.cancelLatch = true ∧ xferNext s = xferAbort .cancelled 0 s) ∨
    (s.xsSent.toNat < s.xsTotal.toNat ∧ s.cancelLatch = false ∧ xferNext s = chunkBegin s) ∨
    (s.xsTotal.toNat ≤ s.xsSent.toNat ∧ xferNext s = xferEnd s) := by
  unfold xferNext
  split
  · cases h : s.cancelLatch <;> simp_all
  · exact .inr (.inr ⟨by omega, rfl⟩)

/-- The length of the next chunk, with the chunk size written out (R27, R122). -/
theorem chunkLength_eq (s : State) : chunkLength s = min 128 (s.xsTotal.toNat - s.xsSent.toNat) := rfl

/-- `xs_cur_len` holds the length of the chunk whole (R27, R122). -/
theorem chunkBegin_xsCurLen_toNat (s : State) :
    (chunkBegin s).xsCurLen.toNat = min 128 (s.xsTotal.toNat - s.xsSent.toNat) := by
  rw [chunkBegin_xsCurLen, BitVec.toNat_ofNat, chunkLength_eq]; omega

/-- `xfer_abort` as one update (R128). -/
theorem xferAbort_eq (e : ErrCode) (info : Half) (s : State) :
    xferAbort e info s =
      { s with
        err := e
        errInfo := info
        result := some (.transfer false s.xsSent s.xsUnknown)
        fsm := if e.fatal then .aborted else .idle
        xsAllOk := false
        xsActive := false
        cancelLatch := false
        responses := s.responses ++ [⟨e, info, some (.transfer false s.xsSent s.xsUnknown)⟩] } := rfl

/-! ### The end of an exchange -/

/-- Delivering a payload ends the request, without an error or with UNKNOWN_RESPONSE_CODE (R106, R118, R137). -/
theorem deliverPayload_cases (l : Byte) (p : Payload) (s : State) :
    deliverPayload l p s = endRequest .none 0 (some (.payload p)) s ∨
    ∃ raw, p = .unknown raw ∧
      deliverPayload l p s = endRequest .unknownResponseCode (unknownInfo l s.rxbuf) (some (.payload p)) s := by
  cases p <;> simp [deliverPayload, complete]

/-! ### Steps -/

/-- A step without a listed input is the block's own. -/
theorem step_of_nil {s : State} (h : s.inbox = []) : step s = blockTurn s := by simp [step, h]

/-- A step takes the first input when it is enabled. -/
theorem step_of_enabled {s : State} {x : Input} {rest : List Input} (h : s.inbox = x :: rest)
    (he : x.enabled s = true) : step s = takeInput x { s with inbox := rest } := by
  simp [step, h, he]

/-- A step lets the block move when the first input has to wait. -/
theorem step_of_waiting {s : State} {x : Input} {rest : List Input} (h : s.inbox = x :: rest)
    (he : x.enabled s = false) : step s = blockTurn s := by
  simp [step, h, he]

/-- Everything a step can be. -/
theorem step_cases (s : State) :
    (∃ x rest, s.inbox = x :: rest ∧ x.enabled s = true ∧ step s = takeInput x { s with inbox := rest }) ∨
    step s = blockTurn s := by
  cases h : s.inbox with
  | nil => exact .inr (step_of_nil h)
  | cons x rest =>
    cases he : x.enabled s
    · exact .inr (step_of_waiting h he)
    · exact .inl ⟨x, rest, rfl, he, step_of_enabled h he⟩

end Sys2Proof.Machine
end

