-- ==== Sys2Proof/Laws/PerInstr.lean ====
section
/-! SUPPORT. A statement about every instruction as syntax, one lemma per constructor: a well-formed request, encoded
as the record of 30_encoding.md R66, is decoded back. -/

namespace Sys2Proof.Laws.RequestRoundTrip
open Sys2Proof

/-- The record of a well-formed request instruction decodes to that instruction. -/
def Statement (i : Instr) : Prop := i.wellFormed = true → ∀ q, encodeRequest i = some q → decodeRequest q = i

/-- A code that is none of R67's decodes as a reserved request. -/
theorem decodeRequest_of_reserved (c : Byte) (o : Operands) (h : isReservedCode c = true) :
    decodeRequest ⟨c, o⟩ = .reservedRequest c o := by
  revert h
  revert c
  simp only [decodeRequest, isReservedCode, requestCodes]
  intro c
  split <;> simp_all [← BitVec.toNat_inj]

theorem crcInit (o : Operands) : Statement (.crcInit o) := by rintro _ _ ⟨rfl⟩; rfl
theorem crcUpdate (o : Operands) : Statement (.crcUpdate o) := by rintro _ _ ⟨rfl⟩; rfl
theorem crcRead (o : Operands) : Statement (.crcRead o) := by rintro _ _ ⟨rfl⟩; rfl
theorem crcBlock (o : Operands) : Statement (.crcBlock o) := by rintro _ _ ⟨rfl⟩; rfl
theorem codecSplit32 (o : Operands) : Statement (.codecSplit32 o) := by rintro _ _ ⟨rfl⟩; rfl
theorem codecJoin32 (o : Operands) : Statement (.codecJoin32 o) := by rintro _ _ ⟨rfl⟩; rfl
theorem codecJoin16 (o : Operands) : Statement (.codecJoin16 o) := by rintro _ _ ⟨rfl⟩; rfl
theorem encode (o : Operands) : Statement (.encode o) := by rintro _ _ ⟨rfl⟩; rfl
theorem decode (o : Operands) : Statement (.decode o) := by rintro _ _ ⟨rfl⟩; rfl
theorem execute (o : Operands) : Statement (.execute o) := by rintro _ _ ⟨rfl⟩; rfl
theorem sendImage (o : Operands) : Statement (.sendImage o) := by rintro _ _ ⟨rfl⟩; rfl
theorem cancel (o : Operands) : Statement (.cancel o) := by rintro _ _ ⟨rfl⟩; rfl
theorem status (o : Operands) : Statement (.status o) := by rintro _ _ ⟨rfl⟩; rfl
theorem reservedRequest (code : Byte) (o : Operands) : Statement (.reservedRequest code o) := by
  rintro h _ ⟨rfl⟩; exact decodeRequest_of_reserved code o h
theorem getVersion : Statement .getVersion := by rintro _ _ ⟨⟩
theorem getHelp : Statement .getHelp := by rintro _ _ ⟨⟩
theorem getChipId : Statement .getChipId := by rintro _ _ ⟨⟩
theorem getReadProtectionStatus : Statement .getReadProtectionStatus := by rintro _ _ ⟨⟩
theorem jumpToAddress (a : Word) : Statement (.jumpToAddress a) := by rintro _ _ ⟨⟩
theorem eraseFlash (s k : Byte) : Statement (.eraseFlash s k) := by rintro _ _ ⟨⟩
theorem memoryWrite (a : Word) (d : List Byte) : Statement (.memoryWrite a d) := by rintro _ _ ⟨⟩
theorem changeReadProtectionLevel (v : Byte) : Statement (.changeReadProtectionLevel v) := by rintro _ _ ⟨⟩
theorem jumpToApplication : Statement .jumpToApplication := by rintro _ _ ⟨⟩
theorem extendedWriteProtect : Statement .extendedWriteProtect := by rintro _ _ ⟨⟩
theorem memoryRead : Statement .memoryRead := by rintro _ _ ⟨⟩
theorem sectorStatusRead : Statement .sectorStatusRead := by rintro _ _ ⟨⟩
theorem otpRead : Statement .otpRead := by rintro _ _ ⟨⟩
theorem ack : Statement .ack := by rintro _ _ ⟨⟩
theorem nack (st : Byte) : Statement (.nack st) := by rintro _ _ ⟨⟩

end Sys2Proof.Laws.RequestRoundTrip
end

