-- ==== Sys2Proof/Laws/Turn.lean ====
section
/-! SUPPORT. What the steps of an exchange can do, said once. -/

namespace Sys2Proof.Machine
open Sys2Proof

/-- The last payload byte hands over to the command of the exchange (R104). -/
theorem payloadComplete_of_command {s : State} {q : Request} {c : Command} (hq : s.req = some q)
    (hc : exchangeCommand q = some c) : payloadComplete s = finishCommand c { s with fsm := .decoded } := by
  simp only [payloadComplete, hq, readHeld_some, hc]

/-- A chunk's exchange updates the session (R123). -/
theorem finishCommand_chunk {s : State} {l : Byte} (ha : s.xsActive = true) (hl : s.ackLen = some l) :
    finishCommand .memoryWrite s = .next { xferUpdate (decodeMemoryWrite l s.rxbuf) s with fsm := .pacing } := by
  simp only [finishCommand, ha, if_true, finishChunk, hl, readHeld_some]

/-- An exchange outside a transfer delivers its payload (R118, R137). -/
theorem finishCommand_single {s : State} {l : Byte} (c : Command) (ha : s.xsActive = false) (hl : s.ackLen = some l) :
    finishCommand c s = .next (deliverPayload l (decodeResponse s.opcodes c l s.rxbuf) s) := by
  cases c <;> simp [finishCommand, ha, finishSingle, hl]

/-- A short image source (R122, T12). -/
theorem chunkStep_of_short {s : State} (hk : chunkLengthOk s.xsCurLen.toNat = true)
    (h : s.imageSource.length < s.xsCurLen.toNat) :
    chunkStep s =
      .next (xferAbort .sourceShort (BitVec.ofNat 16 s.imageSource.length) { s with imageSource := [] }) := by
  simp [chunkStep, hk, imageRead, List.take_of_length_le h.le, List.drop_of_length_le h.le, h.ne]

/-- A chunk that is read whole (R122, T11). -/
theorem chunkStep_of_full {s : State} (hf : s.fsm = .encoding) (hk : chunkLengthOk s.xsCurLen.toNat = true)
    (h : s.xsCurLen.toNat ≤ s.imageSource.length) :
    chunkStep s = .next (beginTransmit
      (buildFrame s.opcodes.memoryWrite (memoryWritePayload s.xsBase (s.imageSource.take s.xsCurLen.toNat))
        { s with imageSource := s.imageSource.drop s.xsCurLen.toNat })) := by
  have h1 : (s.imageSource.take s.xsCurLen.toNat).length = s.xsCurLen.toNat := by simp [h]
  simp only [chunkStep, hk, if_true, imageRead, h1, ne_eq, not_true_eq_false, if_false, exec, execMemoryWrite, hf,
    Fsm.busy, wireCommand, encodeCommand, memoryWriteOperands, operandFault, buildCommandFrame, framePayload]
  rfl

/-- A frame byte that is not the last (R135, T13). -/
theorem transmitByte_go {s : State} {b : Byte} (h : s.txbuf[s.txIdx.toNat]? = some b)
    (hlt : (s.txIdx + 1).toNat < s.txbuf.length) :
    transmitByte s = { s with chanTx := s.chanTx ++ [b], txIdx := s.txIdx + 1 } := by
  unfold transmitByte; rw [h]; exact if_pos hlt

/-- The last frame byte (R135, T14). -/
theorem transmitByte_last {s : State} {b : Byte} (h : s.txbuf[s.txIdx.toNat]? = some b)
    (hlt : ¬ (s.txIdx + 1).toNat < s.txbuf.length) :
    transmitByte s = { s with chanTx := s.chanTx ++ [b], txIdx := s.txIdx + 1, fsm := .awaitingAck } := by
  unfold transmitByte; rw [h]; exact if_neg hlt

/-- A request answers a next state, whatever it is and whatever the state. -/
theorem exec_request_next (q : Request) (s : State) : ∃ t, exec (decodeRequest q) s = .next t := by
  obtain ⟨code, o⟩ := q
  unfold decodeRequest
  split <;> simp only [exec, execCrcInit, execCrcUpdate, execCrcRead, execCrcBlock, execCodecSplit32, execCodecJoin32,
    execCodecJoin16, execEncode, execDecode, execExecute, execSendImage, execReservedRequest, execCancel, execStatus,
    issue]
  all_goals (repeat' split)
  all_goals exact ⟨_, rfl⟩

/-- `t` is `s` after one ChanRead. -/
def ReadOne (s : State) (ds : List RxDraw) (n : Nat) : Prop :=
  (∃ d, s.chanRx = d :: ds ∧ n = s.drawIdx) ∨ (s.chanRx = [] ∧ ds = [] ∧ n = s.drawIdx + 1)

/-- A ChanRead is one draw. -/
theorem chanRead_one (s : State) :
    ∃ d ds n, ReadOne s ds n ∧ chanRead s = (d, { s with chanRx := ds, drawIdx := n }) := by
  rcases chanRead_cases s with ⟨d, ds, h1, h⟩ | ⟨h0, h⟩
  · exact ⟨d, ds, s.drawIdx, .inl ⟨d, h1, rfl⟩, h⟩
  · refine ⟨Config.deviceDraw s.drawIdx, [], s.drawIdx + 1, .inr ⟨h0, rfl, rfl⟩, ?_⟩; rw [h, ← h0]

/-- What the end of an exchange can be. -/
theorem payloadComplete_cases {s t : State} (h : payloadComplete s = .next t) :
    (∃ p, s.xsActive = true ∧ t = { xferUpdate p { s with fsm := .decoded } with fsm := .pacing }) ∨
    (∃ l p, t = deliverPayload l p { s with fsm := .decoded }) := by
  have single : ∀ c, finishSingle c { s with fsm := .decoded } = .next t →
      ∃ l p, t = deliverPayload l p { s with fsm := .decoded } := by
    intro c h
    obtain ⟨l, -, h⟩ := readHeld_next h
    cases h; exact ⟨_, _, rfl⟩
  obtain ⟨q, -, h⟩ := readHeld_next h
  split at h
  · rename_i c _
    cases c <;> simp only [finishCommand] at h
    case memoryWrite =>
      split at h
      · obtain ⟨l, -, h⟩ := readHeld_next h
        cases h; exact .inl ⟨_, ‹_›, rfl⟩
      · exact .inr (single _ h)
    all_goals exact .inr (single _ h)
  · cases h

/-- Everything the block's own step can be, with the rows of R141. -/
inductive TurnStep (s t : State) : Prop where
  /-- No request in progress. -/
  | waits (free : s.fsm.busy = false) (eq : t = s)
  /-- T12. -/
  | short (fsm : s.fsm = .encoding) (len : chunkLengthOk s.xsCurLen.toNat = true)
      (lt : s.imageSource.length < s.xsCurLen.toNat)
      (eq : t = xferAbort .sourceShort (BitVec.ofNat 16 s.imageSource.length) { s with imageSource := [] })
  /-- T11. -/
  | chunk (fsm : s.fsm = .encoding) (len : chunkLengthOk s.xsCurLen.toNat = true)
      (le : s.xsCurLen.toNat ≤ s.imageSource.length)
      (eq : t = beginTransmit
        (buildFrame s.opcodes.memoryWrite (memoryWritePayload s.xsBase (s.imageSource.take s.xsCurLen.toNat))
          { s with imageSource := s.imageSource.drop s.xsCurLen.toNat }))
  /-- T13, T14. -/
  | writes (fsm : s.fsm = .transmitting) (eq : t = transmitByte s)
  /-- T16, T18. -/
  | raises (fsm : s.fsm = .awaitingAck ∨ s.fsm = .awaitingPayload) (ds : List RxDraw) (n : Nat) (a : Option Byte)
      (e : ErrCode) (info : Half) (read : ReadOne s ds n) (fatal : e.fatal = true)
      (eq : t = raiseInExchange e info { s with chanRx := ds, drawIdx := n, ackStatus := a })
  /-- T15. -/
  | acknowledged (fsm : s.fsm = .awaitingAck) (first : s.ackStatus = none) (ds : List RxDraw) (n : Nat)
      (read : ReadOne s ds n) (eq : t = { s with chanRx := ds, drawIdx := n, ackStatus := some Config.ackOk })
  /-- T17. -/
  | header (fsm : s.fsm = .awaitingAck) (second : s.ackStatus ≠ none) (ds : List RxDraw) (n : Nat) (b : Byte)
      (read : ReadOne s ds n)
      (eq : t = { s with
        chanRx := ds, drawIdx := n, ackLen := some b, rxbuf := [], rxIdx := 0, fsm := .awaitingPayload })
  /-- T19. -/
  | payload (fsm : s.fsm = .awaitingPayload) (ds : List RxDraw) (n : Nat) (b : Byte) (read : ReadOne s ds n)
      (eq : t = { s with chanRx := ds, drawIdx := n, rxbuf := s.rxbuf ++ [b], rxIdx := s.rxIdx + 1 })
  /-- T20 to T22, after at most one ChanRead. -/
  | decodes (fsm : s.fsm = .awaitingAck ∨ s.fsm = .awaitingPayload ∨ s.fsm = .decoded) (ds : List RxDraw) (n : Nat)
      (r : List Byte) (i : Byte) (l : Option Byte)
      (read : (ds = s.chanRx ∧ n = s.drawIdx) ∨ s.fsm ≠ .decoded ∧ ReadOne s ds n)
      (eq : payloadComplete { s with chanRx := ds, drawIdx := n, rxbuf := r, rxIdx := i, ackLen := l, fsm := .decoded }
        = .next t)
  /-- T23 to T25. -/
  | paces (fsm : s.fsm = .pacing) (eq : t = xferNext s)

/-- The block's own step is one of them. -/
theorem blockTurn_cases {s t : State} (h : blockTurn s = .next t) : TurnStep s t := by
  obtain ⟨d, ds, n, h1, hr⟩ := chanRead_one s
  unfold blockTurn at h
  cases hf : s.fsm <;> simp only [hf] at h
  case idle => cases h; exact .waits (by rw [hf]; rfl) rfl
  case aborted => cases h; exact .waits (by rw [hf]; rfl) rfl
  case encoding =>
    cases hk : chunkLengthOk s.xsCurLen.toNat
    · simp [chunkStep, hk] at h
    rcases Nat.lt_or_ge s.imageSource.length s.xsCurLen.toNat with hh | hh
    · rw [chunkStep_of_short hk hh] at h
      cases h; exact .short hf hk hh rfl
    · rw [chunkStep_of_full hf hk hh] at h
      cases h; exact .chunk hf hk hh rfl
  case transmitting => cases h; exact .writes hf rfl
  case awaitingAck =>
    split at h
    · rename_i hn
      unfold headerStep at h; rw [hr] at h
      cases d with
      | timeout => cases h; exact .raises (.inl hf) ds n s.ackStatus _ _ h1 rfl rfl
      | byte b =>
        simp only [decodeHeader] at h
        split at h
        · simp only [exec, execAck, readStatus, hf, hn, and_self, if_true] at h
          cases h; exact .acknowledged hf hn ds n h1 (by simp [hf])
        · rename_i hb
          simp only [exec, execNack, readStatus, hf, hn, and_self, if_true, hb, if_false] at h
          cases h; exact .raises (.inl hf) ds n (some b) .notAcknowledged (b.setWidth 16) h1 rfl (by simp [hf])
    · rename_i hn
      unfold readAckLen at h; rw [hr] at h
      cases d with
      | timeout => cases h; exact .raises (.inl hf) ds n s.ackStatus _ _ h1 rfl rfl
      | byte b =>
        simp only at h; split at h
        · exact .decodes (.inl hf) ds n _ _ _ (.inr ⟨by simp [hf], h1⟩) h
        · cases h; exact .header hf hn ds n b h1 rfl
  case awaitingPayload =>
    obtain ⟨l, -, h⟩ := readHeld_next h
    split at h
    · rw [hr] at h
      cases d with
      | timeout => cases h; exact .raises (.inr hf) ds n s.ackStatus _ _ h1 rfl rfl
      | byte b =>
        simp only at h; split at h
        · cases h; exact .payload hf ds n b h1 (by simp [hf])
        · exact .decodes (.inr (.inl hf)) ds n _ _ _ (.inr ⟨by simp [hf], h1⟩) h
    · exact .decodes (.inr (.inl hf)) s.chanRx s.drawIdx _ _ _ (.inl ⟨rfl, rfl⟩) h
  case decoded => exact .decodes (.inr (.inr hf)) s.chanRx s.drawIdx _ _ _ (.inl ⟨rfl, rfl⟩) h
  case pacing => cases h; exact .paces hf rfl

end Sys2Proof.Machine
end

