-- ==== Sys2Proof/Tests/Slice0.lean ====
section
/-! SUPPORT. Tests and witnesses. Expected values come from the spec: V<n> is a vector and P<n> a program of
95_test_vectors.md, T its test instantiation of the opcodes; the others are worked from the rule named. -/

namespace Sys2Proof.Tests
set_option Elab.async false
open Sys2Proof Sys2Proof.Machine Sys2Proof.Spec

/-! ### Helpers -/

/-- A field of the next state, if the outcome is one. -/
def seen {α : Type} (o : Host.Outcome State Fault Refusal) (f : State → α) : Option α :=
  match o with
  | .next t => some (f t)
  | .fault _ => none
  | .refused _ => none

/-- A field seen is the field of a next state. -/
theorem next_of_seen {α : Type} {o : Host.Outcome State Fault Refusal} {f : State → α} {a : α} (h : seen o f = some
    a) :
    ∃ t, o = .next t ∧ f t = a := by
  cases o with
  | next t => exact ⟨t, rfl, by simpa [seen] using h⟩
  | fault r => cases h
  | refused r => cases h

/-- Reset, with the opcodes of T. -/
def atReset : State := { State.reset with opcodes := testOpcodes }

/-- After an exchange that was not acknowledged. -/
def afterAbort : State := { atReset with fsm := .aborted, err := .notAcknowledged }

/-- Zero operands with a selector. -/
def sel (c : Byte) : Operands := { Operands.zero with cmd := c }

/-- The transfer of one byte at 0x08000000. -/
def oneByte : Operands := { Operands.zero with a32 := 0x08000000, len64 := 1 }

/-- That transfer, about to read its chunk. -/
def chunkDue : State :=
  { atReset with
    fsm := .encoding, req := some ⟨0x50, oneByte⟩, xsBase := 0x08000000, xsTotal := 1, xsAllOk := true
    xsActive := true, xsCurLen := 1, imageSource := [0xAA] }

/-- An EXECUTE of GetVersion waiting for its header. -/
def waiting : State :=
  { atReset with
    fsm := .awaitingAck, req := some ⟨0x40, sel 1⟩, txbuf := [0x05, 0x10, 0x27, 0x84, 0xEC, 0x4C], txIdx := 6 }

/-- The same, with `l` payload bytes to come. -/
def reading (l : Byte) : State := { waiting with fsm := .awaitingPayload, ackStatus := some 0xCD, ackLen := some l }

/-- A whole response in `rxbuf`. -/
def read (l : Byte) (p : List Byte) : State :=
  { waiting with fsm := .decoded, ackStatus := some 0xCD, ackLen := some l, rxbuf := p }

/-- A frame on its way, `k` bytes of it written. -/
def sending (k : Byte) : State := { waiting with fsm := .transmitting, txIdx := k }

/-- A transfer of two chunks (129 bytes) between them. -/
def between : State :=
  { chunkDue with fsm := .pacing, xsTotal := 129, xsSent := 128, xsBase := 0x08000080, xsCurLen := 128 }

/-- The transfer of `chunkDue` waiting for its header. -/
def chunkSent : State := { chunkDue with fsm := .awaitingAck, imageSource := [] }

/-- The same, with `l` payload bytes to come. -/
def chunkReading (l : Byte) : State :=
  { chunkSent with fsm := .awaitingPayload, ackStatus := some 0xCD, ackLen := some l }

/-- `s` with `d` the one draw on the receive stream. -/
def drawing (d : RxDraw) (s : State) : State := { s with chanRx := [d] }

/-- A listed draw. -/
theorem draws_listed (d : RxDraw) (s : State) : draws d (drawing d s) { s with chanRx := [] } := .inl ⟨[], rfl, rfl⟩

theorem exchangeOf_waiting : exchangeOf .getVersion waiting := ⟨⟨0x40, sel 1⟩, rfl, .inl (by decide)⟩
theorem exchangeOf_chunkSent : exchangeOf .memoryWrite chunkSent := ⟨⟨0x50, oneByte⟩, rfl, .inr ⟨by decide, rfl⟩⟩

/-! ### WellFormed refuses -/

theorem test_reserved_request_needs_reserved_code : (Instr.reservedRequest 0x01 Operands.zero).wellFormed = false
    := by
  decide
theorem test_memoryWrite_needs_a_byte : (Instr.memoryWrite 0 []).wellFormed = false := by decide
theorem test_memoryWrite_has_at_most_128_bytes : (Instr.memoryWrite 0 (List.replicate 129 0)).wellFormed = false := by
  decide +kernel
theorem test_level_two_is_no_frame : (Instr.changeReadProtectionLevel 2).wellFormed = false := by decide
theorem test_nack_is_not_cd : (Instr.nack 0xCD).wellFormed = false := by decide
theorem test_opcodes_must_differ : ¬ ({ testOpcodes with otpRead := 0x10 } : Opcodes).distinct := by decide

/-! ### Decoding, every constructor -/

/-- The request codes of R67, `p0` = 0x05 in bits 119:112, and one data byte after bit 127. -/
theorem test_decode_requests :
    decodeTableWord 8 0x01 = some (.crcInit Operands.zero) ∧
    decodeTableWord 128 (0x02 + 0x05 * 2 ^ 112) = some (.crcUpdate { Operands.zero with p0 := 0x05 }) ∧
    decodeTableWord 8 0x03 = some (.crcRead Operands.zero) ∧
    decodeTableWord 136 (0x04 + 0xAA * 2 ^ 128) = some (.crcBlock { Operands.zero with data := [0xAA] }) ∧
    decodeTableWord 8 0x10 = some (.codecSplit32 Operands.zero) ∧
    decodeTableWord 8 0x11 = some (.codecJoin32 Operands.zero) ∧
    decodeTableWord 8 0x12 = some (.codecJoin16 Operands.zero) := by decide +kernel
theorem test_decode_channel_requests :
    decodeTableWord 16 0x0120 = some (.encode (sel 1)) ∧
    decodeTableWord 16 0x0230 = some (.decode (sel 2)) ∧
    decodeTableWord 16 0x0340 = some (.execute (sel 3)) ∧
    decodeTableWord 8 0x50 = some (.sendImage Operands.zero) ∧
    decodeTableWord 8 0x60 = some (.cancel Operands.zero) ∧
    decodeTableWord 8 0x70 = some (.status Operands.zero) ∧
    decodeTableWord 8 0x71 = some (.reservedRequest 0x71 Operands.zero) := by decide
/-- R61: any byte but 0xCD is a NACK. -/
theorem test_decode_headers :
    decodeHeader 0xCD = .ack ∧ decodeHeader 0x00 = .nack 0x00 ∧ decodeHeader 0xFF = .nack 0xFF := by decide

/-- V2.7, the frames without operands. -/
theorem test_decode_short_frames :
    decodeFrame testOpcodes [0x05, 0x10, 0x27, 0x84, 0xEC, 0x4C] = .ok .getVersion ∧
    decodeFrame testOpcodes [0x05, 0x11, 0x90, 0x99, 0x2D, 0x48] = .ok .getHelp ∧
    decodeFrame testOpcodes [0x05, 0x12, 0x49, 0xBF, 0x6E, 0x45] = .ok .getChipId ∧
    decodeFrame testOpcodes [0x05, 0x13, 0xFE, 0xA2, 0xAF, 0x41] = .ok .getReadProtectionStatus ∧
    decodeFrame testOpcodes [0x05, 0x22, 0xD9, 0xD2, 0x5C, 0x91] = .ok .jumpToApplication := by
  decide +kernel
/-- V2.7, the frames with operands. -/
theorem test_decode_operand_frames :
    decodeFrame testOpcodes [0x09, 0x14, 0x78, 0x56, 0x34, 0x12, 0x68, 0x02, 0xB6, 0xC0] =
      .ok (.jumpToAddress 0x12345678) ∧
    decodeFrame testOpcodes [0x07, 0x15, 0x02, 0x03, 0x84, 0x6C, 0x8F, 0x77] = .ok (.eraseFlash 2 3) ∧
    decodeFrame testOpcodes [0x06, 0x21, 0x01, 0x8E, 0xE9, 0xB4, 0x62] = .ok (.changeReadProtectionLevel 1) ∧
    decodeFrame testOpcodes [0x0B, 0x16, 0x00, 0x00, 0x00, 0x08, 0x01, 0xAA, 0x5B, 0x83, 0xAE, 0x24] =
      .ok (.memoryWrite 0x08000000 [0xAA]) := by decide +kernel
/-- The four reserved opcodes of T (R57): no frame of theirs is in the spec, so the trailer is computed. -/
theorem test_decode_reserved_opcodes :
    decodeFrame testOpcodes (frameBytes 0x17 []) = .ok .extendedWriteProtect ∧
    decodeFrame testOpcodes (frameBytes 0x18 []) = .ok .memoryRead ∧
    decodeFrame testOpcodes (frameBytes 0x19 []) = .ok .sectorStatusRead ∧
    decodeFrame testOpcodes (frameBytes 0x20 []) = .ok .otpRead := by decide +kernel
/-- A wrong trailer, a wrong length byte, a short frame, an unknown opcode, a level of 2. -/
theorem test_decode_rejects_by_name :
    decodeFrame testOpcodes [0x05, 0x10, 0x27, 0x84, 0xEC, 0x4D] = .error .crcWrong ∧
    decodeFrame testOpcodes [0x06, 0x10, 0x27, 0x84, 0xEC, 0x4C] = .error .lengthByteWrong ∧
    decodeFrame testOpcodes [0x05, 0x10] = .error .frameTooShort ∧
    decodeFrame testOpcodes (frameBytes 0x99 []) = .error (.unknownOpcode 0x99) ∧
    decodeFrame testOpcodes (frameBytes 0x21 [2]) = .error (.payloadLayoutWrong .changeReadProtectionLevel) := by
  decide +kernel

/-! ### CRC and codec -/

/-- V2.2. -/
theorem test_crc_step :
    crcStep 0 0 = 0 ∧ crcStep 0 1 = 0x04C11DB7 ∧ crcStep 0xFFFFFFFF 0xFF = 0x76F39DCF ∧
    crcStep 0x80000000 0 = 0xA6E63D1D := by decide +kernel
/-- V2.1, the regression vector. -/
theorem test_crc32_regression :
    crc32 [0x31, 0x32, 0x33, 0x34, 0x35, 0x36, 0x37, 0x38, 0x39] = 0x1556F485 := by decide +kernel
/-- V2.3. -/
theorem test_crcInit : seen (exec (.crcInit Operands.zero) { atReset with crcAcc := 0 }) (·.crcAcc) =
    some 0xFFFFFFFF := by decide +kernel
/-- P1. -/
theorem test_crcUpdate : seen (exec (.crcUpdate { Operands.zero with p0 := 0x10 }) { atReset with crcAcc :=
    0xD0C1B610 })
    (·.crcAcc) = some 0x4CEC8427 := by decide +kernel
/-- V2.3: reset, then `crc.read`. -/
theorem test_crcRead : seen (exec (.crcRead Operands.zero) atReset) (·.result) = some (some (.word 0xFFFFFFFF)) := by
  decide +kernel
/-- V2.3: the start value does not matter. -/
theorem test_crcBlock : seen (exec (.crcBlock { Operands.zero with data := [0x05, 0x10] })
    { atReset with crcAcc := 0x12345678 }) (fun t => (t.crcAcc, t.result)) =
    some (0x4CEC8427, some (.word 0x4CEC8427)) := by decide +kernel
/-- V2.4. -/
theorem test_split32 : seen (exec (.codecSplit32 { Operands.zero with a32 := 0x4CEC8427 }) atReset) (·.result) =
    some (some (.bytes [0x27, 0x84, 0xEC, 0x4C])) := by decide +kernel
/-- V2.4. -/
theorem test_join32 : seen (exec (.codecJoin32 { Operands.zero with data := [0x00, 0x80, 0x00, 0x08] }) atReset)
    (·.result) = some (some (.word 0x08008000)) := by decide +kernel
/-- V2.4: three bytes. -/
theorem test_join32_refuses : seen (exec (.codecJoin32 { Operands.zero with data := [1, 2, 3] }) atReset)
    (fun t => (t.err, t.errInfo)) = some (.invalidParameter, 5) := by decide +kernel
/-- V2.5. -/
theorem test_join16 : seen (exec (.codecJoin16 { Operands.zero with data := [0x13, 0x04] }) atReset) (·.result) =
    some (some (.half 0x0413)) := by decide +kernel
/-- V2.5: one byte. -/
theorem test_join16_refuses : seen (exec (.codecJoin16 { Operands.zero with data := [0x13] }) atReset) (·.errInfo) =
    some 5 := by decide +kernel

/-! ### Requests on the channel -/

/-- V2.7. -/
theorem test_encode : seen (exec (.encode { sel 6 with p0 := 0xFF }) atReset) (·.txbuf) =
    some [0x07, 0x15, 0xFF, 0x00, 0x14, 0xA3, 0x35, 0xD9] := by decide +kernel
/-- V2.8: level 3. -/
theorem test_encode_refuses : seen (exec (.encode { sel 8 with p0 := 3 }) atReset)
    (fun t => (t.errInfo, t.crcAcc, t.statusWord)) = some (3, 0xFFFFFFFF, 0x30) := by decide +kernel
/-- T10; V2.12: selector 10. -/
theorem test_decode : seen (exec (.decode (sel 1)) atReset) (·.fsm) = some .awaitingAck ∧
    seen (exec (.decode (sel 10)) atReset) (·.errInfo) = some 2 := by decide +kernel
/-- P2, step 1. -/
theorem test_execute : seen (exec (.execute (sel 1)) afterAbort) (fun t => (t.fsm, t.txbuf, t.crcAcc, t.err)) =
    some (.transmitting, [0x05, 0x10, 0x27, 0x84, 0xEC, 0x4C], 0x4CEC8427, .none) := by decide +kernel
/-- P5: level 2. -/
theorem test_execute_refuses_level_two : seen (exec (.execute { sel 8 with p0 := 2 }) atReset)
    (fun t => (t.fsm, t.errInfo, t.chanTx)) = some (.idle, 3, []) := by decide +kernel
/-- V2.10: ends exactly at 2^32. R122, R134: the first chunk's length is there after the acceptance step. -/
theorem test_sendImage : seen (exec (.sendImage { Operands.zero with a32 := 0xFFFFFF7F, len64 := 129 }) atReset)
    (fun t => (t.fsm, t.xsActive, t.xsCurLen)) = some (.encoding, true, 128) := by decide +kernel
/-- V2.10: one byte too many. -/
theorem test_sendImage_refuses : seen (exec (.sendImage { Operands.zero with a32 := 0xFFFFFF80, len64 :=
    129 }) atReset)
    (·.errInfo) = some 6 := by decide +kernel
/-- V2.13. -/
theorem test_cancel : seen (exec (.cancel Operands.zero) chunkDue) (fun t => (t.cancelLatch, t.statusWord)) =
    some (true, 0x701) ∧ seen (exec (.cancel Operands.zero) atReset) (·.cancelLatch) = some false := by decide +kernel
/-- V2.13: during a transfer, and in Aborted. -/
theorem test_status :
    seen (exec (.status Operands.zero) { chunkDue with fsm := .awaitingAck }) (·.responses) =
      some [⟨.none, 0, some (.word 0x303)⟩] ∧
    seen (exec (.status Operands.zero) afterAbort) (·.responses) = some [⟨.none, 0, some (.word 0x16)⟩] := by
  decide +kernel
/-- V2.13: code 0x00 in Aborted. -/
theorem test_reserved_request : seen (exec (.reservedRequest 0 Operands.zero) afterAbort)
    (fun t => (t.fsm, t.err, t.errInfo)) = some (.idle, .invalidParameter, 1) := by decide +kernel

/-! ### Wire commands, V2.12 for the decoders -/

theorem test_getVersion : seen (exec .getVersion (read 4 [1, 2, 0, 3])) (·.result) =
    some (some (.payload (.version 1 2 0 3))) := by decide +kernel
theorem test_getHelp : seen (exec .getHelp (read 3 [0x10, 0x17, 0x99])) (·.result) =
    some (some (.payload (.help [(0x10, .command .getVersion), (0x17, .reservedOp), (0x99, .raw)]))) := by
  decide +kernel
theorem test_getChipId : seen (exec .getChipId (read 2 [0x13, 0x04])) (·.result) =
    some (some (.payload (.chipId 0x0413))) := by decide +kernel
theorem test_getChipId_short : seen (exec .getChipId (read 1 [0x13])) (fun t => (t.err, t.errInfo)) =
    some (.unknownResponseCode, 0x0113) := by decide +kernel
theorem test_getReadProtectionStatus : seen (exec .getReadProtectionStatus (read 1 [0xEE])) (·.result) =
    some (some (.payload .rdpReadError)) := by decide +kernel
theorem test_jumpToAddress : seen (exec (.jumpToAddress 0) (read 1 [2])) (·.result) =
    some (some (.payload (.addressInvalid 2))) := by decide +kernel
theorem test_eraseFlash : seen (exec (.eraseFlash 2 3) (read 1 [0])) (·.result) =
    some (some (.payload .eraseZero)) := by decide +kernel
/-- V2.7, as the encoder of a chunk. -/
theorem test_memoryWrite_encodes : seen (exec (.memoryWrite 0x08000000 [0xAA]) chunkDue) (·.txbuf) =
    some [0x0B, 0x16, 0x00, 0x00, 0x00, 0x08, 0x01, 0xAA, 0x5B, 0x83, 0xAE, 0x24] := by decide +kernel
/-- R123, R124: an unknown status. -/
theorem test_memoryWrite_updates : seen (exec (.memoryWrite 0 [])
    { chunkDue with fsm := .decoded, ackLen := some 1, rxbuf := [7], xsCurLen := 1 })
    (fun t => (t.fsm, t.xsAllOk, t.xsUnknown, t.xsSent, t.xsBase)) =
    some (.pacing, false, true, 1, 0x08000001) := by decide +kernel
theorem test_changeReadProtectionLevel : seen (exec (.changeReadProtectionLevel 1) (read 1 [0])) (·.result) =
    some (some (.payload .levelNotChanged)) := by decide +kernel
theorem test_jumpToApplication : seen (exec .jumpToApplication (read 1 [5])) (fun t => (t.result, t.errInfo)) =
    some (some (.payload (.unknown [5])), 0x0105) := by decide +kernel
/-- R59: refused before any byte is written. -/
theorem test_unimplemented_are_refused :
    ∀ i ∈ [Instr.extendedWriteProtect, .memoryRead, .sectorStatusRead, .otpRead],
      seen (exec i atReset) (fun t => (t.fsm, t.err, t.chanTx)) = some (.idle, .invalidParameter, []) := by
  decide +kernel
/-- V2.6. -/
theorem test_ack : seen (exec .ack waiting) (fun t => (t.fsm, t.ackStatus)) = some (.awaitingAck, some 0xCD) := by
  decide +kernel
theorem test_nack : seen (exec (.nack 0x7F) waiting) (fun t => (t.fsm, t.errInfo, t.statusWord)) =
    some (.aborted, 0x7F, 0x16) := by decide +kernel

/-! ### Steps -/

/-- R141, T11: the chunk is read, encoded and ready to send. -/
theorem test_step_chunk : seen (step chunkDue) (fun t => (t.fsm, t.xsCurLen, t.imageSource, t.txbuf.take 3)) =
    some (.transmitting, 1, [], [0x0B, 0x16, 0x00]) := by decide +kernel
/-- R122, R134, T23: the last chunk of 129 bytes begins, its length known before it is read. -/
theorem test_step_next_chunk : seen (step between) (fun t => (t.fsm, t.xsCurLen)) = some (.encoding, 1) := by
  decide +kernel
/-- V2.6: `CD 00` for GetVersion. -/
theorem test_step_zero_length : seen (step { waiting with ackStatus := some 0xCD, chanRx := [.byte 0] })
    (fun t => (t.fsm, t.err, t.errInfo)) = some (.idle, .unknownResponseCode, 0) := by decide +kernel
/-- V2.14. -/
theorem test_step_reset : seen (step { sending 3 with inbox := [.reset], chanTx := [0x05, 0x10, 0x27] })
    (fun t => (t.fsm, t.chanTx, t.responses)) = some (.idle, [0x05, 0x10, 0x27], []) := by decide +kernel
/-- The host's probe: the first step after reset runs the word. -/
theorem test_withFetchWord :
    seen (step (State.reset.withFetchWord 8 0x70)) (·.responses) = some [⟨.none, 0, some (.word 0)⟩] ∧
    seen (step (State.reset.withFetchWord 8 0xCD)) (·.ackStatus) = some (some 0xCD) := by decide +kernel
/-- R118, R143: the exchange of a placed header is that of a DECODE, and runs to its end: `CD 00` for GetVersion. -/
theorem test_placed_header_runs_on :
    seen (core.run 2 { State.reset.withFetchWord 8 0xCD with chanRx := [.byte 0xCD, .byte 0] })
      (fun t => (t.fsm, t.err)) = some (.idle, .unknownResponseCode) := by decide +kernel
/-- R70, R71: `mass_erase` and its line. -/
theorem test_mass_erase : asmRequest pseudoMassErase = some "exec EraseFlash start=255 count=0" := by decide +kernel

/-! ### Witnesses: for every statement with hypotheses, a state and operands that meet them

`free s` is the one hypothesis of the statements of the CRC and codec requests, of DECODE, of the reserved operations
and of the first clauses of the others. -/

theorem witness_free_in_idle : free atReset := .inl rfl
theorem witness_free_in_aborted : free afterAbort := .inr rfl

theorem witness_CrcInitSetsAccumulator : free atReset := .inl rfl
theorem witness_CrcUpdateMixesOneByte : free atReset := .inl rfl
theorem witness_CrcReadReturnsAccumulator : free atReset := .inl rfl
theorem witness_CrcBlockIsInitUpdatesRead : free afterAbort := .inr rfl
theorem witness_Split32ReturnsLowByteFirst : free atReset := .inl rfl
theorem witness_Join32NeedsFourBytes : free atReset ∧ ([0, 0, 0, 0] : List Byte) = [0, 0, 0, 0] ∧
    ([0, 0, 0] : List Byte).length ≠ 4 ∧ ([0, 0, 0, 0, 0] : List Byte).length ≠ 4 := ⟨.inl rfl, by decide⟩
theorem witness_Join16NeedsTwoBytes : free atReset ∧ ([0, 0] : List Byte) = [0, 0] ∧ ([0] : List Byte).length ≠ 2 ∧
    ([0, 0, 0] : List Byte).length ≠ 2 := ⟨.inl rfl, by decide⟩
theorem witness_SelectorsNameTheCommands : (0 : Byte) = 0 ∧ 10 ≤ (10 : Byte).toNat ∧ 10 ≤ (255 : Byte).toNat := by
  decide
theorem witness_RequestAndHeaderCodesAreUnambiguous : (Instr.reservedRequest 0xFF (sel 1)).wellFormed = true ∧
    encodeRequest (.reservedRequest 0xFF (sel 1)) = some ⟨0xFF, sel 1⟩ := by decide
theorem witness_DecodeOfEncodeIsIdentity : testOpcodes.distinct ∧
    (Instr.memoryWrite 0xFFFFFF80 (List.replicate 128 0)).wellFormed = true ∧
    (Sys2Proof.encode testOpcodes (.memoryWrite 0xFFFFFF80 (List.replicate 128 0))).isSome = true := by decide +kernel
theorem witness_FrameOfACommandIsUnique :
    decodeFrame testOpcodes [0x05, 0x10, 0x27, 0x84, 0xEC, 0x4C] = .ok .getVersion ∧
    encodeFrame testOpcodes .getVersion = some [0x05, 0x10, 0x27, 0x84, 0xEC, 0x4C] := by decide +kernel
theorem witness_BuiltFrameObeysLengthAndCrcLaws : ([] : List Byte).length ≤ 133 ∧
    (List.replicate 133 (0 : Byte)).length ≤ 133 := by decide +kernel

/-- Both bounds of the operand check. -/
theorem witness_inRange : inRange (sel 8) .changeReadProtectionLevel ∧
    inRange { sel 8 with p0 := 1 } .changeReadProtectionLevel ∧
    inRange { sel 7 with data := [0] } .memoryWrite ∧
    inRange { sel 7 with data := List.replicate 128 0 } .memoryWrite := by
  simp [inRange, sel, Operands.zero]
theorem witness_EncodeReturnsTheFrame : free atReset ∧ Command.ofSelector (sel 9).cmd = some .jumpToApplication ∧
    inRange (sel 9) .jumpToApplication := ⟨.inl rfl, rfl, by simp [inRange]⟩
theorem witness_BadOperandsAreRefused_selector : free atReset ∧ Command.ofSelector (sel 0).cmd = none ∧
    Command.ofSelector (sel 10).cmd = none := ⟨.inl rfl, rfl, rfl⟩
theorem witness_BadOperandsAreRefused_level : free atReset ∧ ({ sel 8 with p0 := 2 } : Operands).cmd = 8 ∧
    ({ sel 8 with p0 := 2 } : Operands).p0 ≠ 0 ∧ ({ sel 8 with p0 := 2 } : Operands).p0 ≠ 1 := ⟨.inl rfl, by decide⟩
theorem witness_BadOperandsAreRefused_chunk : free atReset ∧ (sel 7).cmd = 7 ∧ (sel 7).data.length = 0 ∧
    128 < ({ sel 7 with data := List.replicate 129 0 } : Operands).data.length := ⟨.inl rfl, by decide +kernel⟩
theorem witness_WireCommandsBuildTheirFrames : chunkDue.fsm = .encoding ∧
    inRange { sel 7 with data := [0] } .memoryWrite ∧ ([] : List Byte).length = 0 ∧
    128 < (List.replicate 129 (0 : Byte)).length ∧ (2 : Byte) ≠ 0 ∧ (2 : Byte) ≠ 1 :=
  ⟨rfl, by simp [inRange], rfl, by decide +kernel⟩
theorem witness_CommandOnItsOwnIsExecute : free atReset ∧
    (Command.memoryWrite = .memoryWrite → inRange { sel 7 with data := [0] } .memoryWrite) :=
  ⟨.inl rfl, fun _ => by simp [inRange]⟩
theorem witness_CommandOnItsOwnIsExecute_refused : free afterAbort ∧ Command.memoryWrite = .memoryWrite ∧
    (sel 7).data.length = 0 ∧ 128 < ({ sel 7 with data := List.replicate 129 0 } : Operands).data.length :=
  ⟨.inr rfl, rfl, rfl, by decide +kernel⟩
theorem witness_ReservedOperationsAreRefused : free atReset ∧
    Instr.otpRead ∈ [Instr.extendedWriteProtect, .memoryRead, .sectorStatusRead, .otpRead] := ⟨.inl rfl, by decide⟩
theorem witness_StatusByteAcknowledgesOrEnds : waiting.fsm = .awaitingAck ∧ waiting.ackStatus = none ∧
    (0xCE : Byte) ≠ 0xCD ∧ waiting.xsActive = false := ⟨rfl, rfl, by decide, rfl⟩
theorem witness_StatusByteAcknowledgesOrEnds_transfer : ({ chunkDue with fsm :=
    .awaitingAck } : State).fsm = .awaitingAck ∧
    ({ chunkDue with fsm := .awaitingAck } : State).ackStatus = none ∧ (0x00 : Byte) ≠ 0xCD ∧
    ({ chunkDue with fsm := .awaitingAck } : State).xsActive = true := ⟨rfl, rfl, by decide, rfl⟩
theorem witness_DecodeWaitsForAHeader : free atReset ∧ Command.ofSelector (sel 1).cmd = some .getVersion ∧
    Command.ofSelector (sel 10).cmd = none := ⟨.inl rfl, rfl, rfl⟩
theorem witness_VersionAndChipIdAreDecoded : responseRead 4 [1, 2, 0, 3] (read 4 [1, 2, 0, 3]) ∧
    responseRead 2 [0x13, 0x04] (read 2 [0x13, 0x04]) := ⟨⟨rfl, rfl, rfl, rfl, rfl⟩, ⟨rfl, rfl, rfl, rfl, rfl⟩⟩
theorem witness_HelpLabelsEveryByte : responseRead 3 [0x10, 0x17, 0x99] (read 3 [0x10, 0x17, 0x99]) ∧
    (read 3 [0x10, 0x17, 0x99]).opcodes.distinct ∧ (0x10 : Byte) = testOpcodes.ofCommand .getVersion ∧
    (0x17 : Byte) = testOpcodes.ofReserved .extendedWriteProtect ∧ (0x99 : Byte) ∉ testOpcodes.toList :=
  ⟨⟨rfl, rfl, rfl, rfl, rfl⟩, by decide +kernel⟩
theorem witness_OneByteAnswersAreDecoded : responseRead 1 [0xEE] (read 1 [0xEE]) := ⟨rfl, rfl, rfl, rfl, rfl⟩
/-- Lengths 0, 1 and 255. -/
theorem witness_WrongLengthIsReported : responseRead 0 [] (read 0 []) ∧ responseRead 1 [0x13] (read 1 [0x13]) ∧
    responseRead 255 (List.replicate 255 0) (read 255 (List.replicate 255 0)) ∧ Command.getChipId ≠ .getHelp ∧
    (1 : Byte) ≠ 2 := ⟨⟨rfl, rfl, rfl, rfl, rfl⟩, ⟨rfl, rfl, rfl, rfl, rfl⟩,
      ⟨rfl, rfl, rfl, rfl, by decide +kernel⟩, by decide⟩
theorem witness_ExecuteStartsTransmitting : free afterAbort ∧
    Command.ofSelector (sel 8).cmd = some .changeReadProtectionLevel ∧
    Command.changeReadProtectionLevel ≠ .memoryWrite ∧ inRange (sel 8) .changeReadProtectionLevel :=
  ⟨.inr rfl, rfl, by decide, by simp [inRange, sel, Operands.zero]⟩
theorem witness_ExecuteMemoryWriteIsSendImage : free atReset ∧ (sel 7).cmd = 7 := ⟨.inl rfl, rfl⟩
/-- Exactly 2^32, length 0 at the top, and one byte past it. -/
theorem witness_SendImageCreatesTheSession :
    let o1 := { Operands.zero with a32 := 0xFFFFFF7F, len64 := 129 }
    let o2 := { Operands.zero with a32 := 0xFFFFFFFF, len64 := 0 }
    let o3 := { Operands.zero with a32 := 0xFFFFFFFF, len64 := 2 }
    free atReset ∧ o1.a32.toNat + o1.len64.toNat ≤ 2 ^ 32 ∧ o1.len64 ≠ 0 ∧ o2.len64 = 0 ∧
      2 ^ 32 < o3.a32.toNat + o3.len64.toNat := ⟨.inl rfl, by decide⟩
theorem witness_ReservedCodeIsRefused : free atReset ∧
    (0x00 : Byte) ∉ ([0x01, 0x02, 0x03, 0x04, 0x10, 0x11, 0x12, 0x20,
    0x30, 0x40, 0x50, 0x60, 0x70] : List Byte) := ⟨.inl rfl, by decide⟩
theorem witness_OtherRequestsAreHeldWhileBusy : waiting.fsm.busy = true ∧ (0x50 : Byte) ≠ 0x60 ∧
    (0x50 : Byte) ≠ 0x70 :=
  ⟨rfl, by decide⟩
theorem witness_StepRunsTheIssuedRequest : ({ atReset with inbox := [.request ⟨0x03, sel 0⟩] } : State).inbox =
    .request ⟨0x03, sel 0⟩ :: [] ∧ free { atReset with inbox := [.request ⟨0x03, sel 0⟩] } := ⟨rfl, .inl rfl⟩
theorem witness_StepRunsTheIssuedRequest_busy : ({ waiting with inbox := [.request ⟨0x60, sel 0⟩] } : State).inbox =
    .request ⟨0x60, sel 0⟩ :: [] ∧ (⟨0x60, sel 0⟩ : Request).code = 0x60 ∧ (⟨0x70, sel 0⟩ : Request).code = 0x70 :=
  ⟨rfl, rfl, rfl⟩
theorem witness_StepRunsHeadersChunksAndDecoders_header :
    let s := drawing (.byte 0xCE) waiting
    s.inbox = [] ∧ s.fsm = .awaitingAck ∧ s.ackStatus = none ∧ draws (.byte 0xCE) s waiting :=
  ⟨rfl, rfl, rfl, draws_listed _ _⟩
/-- Chunks of 1 and of 128 bytes. -/
theorem witness_StepRunsHeadersChunksAndDecoders_chunk :
    let s := { chunkDue with xsCurLen := 128, imageSource := List.replicate 128 0 }
    chunkDue.inbox = [] ∧ chunkDue.fsm = .encoding ∧ chunkDue.xsCurLen.toNat = 1 ∧ 1 ≤ chunkDue.imageSource.length ∧
      s.inbox = [] ∧ s.fsm = .encoding ∧ s.xsCurLen.toNat = 128 ∧ 128 ≤ s.imageSource.length :=
  ⟨rfl, rfl, rfl, by decide, rfl, rfl, rfl, by simp⟩
theorem witness_StepRunsHeadersChunksAndDecoders_last :
    let s := drawing (.byte 7) (reading 1)
    s.inbox = [] ∧ s.fsm = .awaitingPayload ∧ exchangeOf .getVersion s ∧ s.ackLen = some 1 ∧
      s.rxIdx.toNat + 1 = (1 : Byte).toNat ∧ draws (.byte 7) s (reading 1) :=
  ⟨rfl, rfl, exchangeOf_waiting, rfl, rfl, draws_listed _ _⟩
theorem witness_StepRunsHeadersChunksAndDecoders_last_of_chunk :
    let s := drawing (.byte 1) (chunkReading 1)
    s.inbox = [] ∧ s.fsm = .awaitingPayload ∧ exchangeOf .memoryWrite s ∧ s.ackLen = some 1 ∧
      s.rxIdx.toNat + 1 = (1 : Byte).toNat ∧ draws (.byte 1) s (chunkReading 1) :=
  ⟨rfl, rfl, exchangeOf_chunkSent, rfl, rfl, draws_listed _ _⟩
theorem witness_StepRunsHeadersChunksAndDecoders_empty :
    let s := drawing (.byte 0) { waiting with ackStatus := some 0xCD }
    s.inbox = [] ∧ s.fsm = .awaitingAck ∧ s.ackStatus = some 0xCD ∧ exchangeOf .getVersion s ∧
      draws (.byte 0) s { waiting with ackStatus := some 0xCD } :=
  ⟨rfl, rfl, rfl, exchangeOf_waiting, draws_listed _ _⟩
theorem witness_StepRunsHeadersChunksAndDecoders_empty_chunk :
    let s := drawing (.byte 0) { chunkSent with ackStatus := some 0xCD }
    s.inbox = [] ∧ s.fsm = .awaitingAck ∧ s.ackStatus = some 0xCD ∧ exchangeOf .memoryWrite s ∧
      draws (.byte 0) s { chunkSent with ackStatus := some 0xCD } :=
  ⟨rfl, rfl, rfl, exchangeOf_chunkSent, draws_listed _ _⟩
/-- A stream that lists nothing: the draw is free, and it is a byte or a timeout. -/
theorem witness_draws_free : waiting.chanRx = [] ∧ waiting.inbox = [] ∧ waiting.fsm = .awaitingAck ∧
    waiting.ackStatus = none ∧
    ((∃ b, draws (.byte b) waiting { waiting with drawIdx := 1 }) ∨ draws .timeout waiting { waiting with drawIdx := 1 })
      := by
  refine ⟨rfl, rfl, rfl, rfl, ?_⟩
  cases h : Config.deviceDraw 0 with
  | byte b => exact .inl ⟨b, .inr ⟨rfl, h.symm, rfl⟩⟩
  | timeout => exact .inr (.inr ⟨rfl, h.symm, rfl⟩)
/-- The first byte and the last. -/
theorem witness_TransmittingWritesOneByte : (sending 0).inbox = [] ∧ (sending 0).fsm = .transmitting ∧
    (sending 0).txbuf.length ≤ 139 ∧ (sending 0).txbuf[(sending 0).txIdx.toNat]? = some 0x05 ∧
    (sending 5).inbox = [] ∧ (sending 5).fsm = .transmitting ∧ (sending 5).txbuf.length ≤ 139 ∧
    (sending 5).txbuf[(sending 5).txIdx.toNat]? = some 0x4C := by decide +kernel
theorem witness_HeaderAndPayloadBytesAreRead_header :
    let s := drawing (.byte 1) { waiting with ackStatus := some 0xCD }
    s.inbox = [] ∧ draws (.byte 1) s { waiting with ackStatus := some 0xCD } ∧ s.fsm = .awaitingAck ∧
      s.ackStatus = some 0xCD ∧ (1 : Byte) ≠ 0 := ⟨rfl, draws_listed _ _, rfl, rfl, by decide⟩
theorem witness_HeaderAndPayloadBytesAreRead_empty :
    let s := drawing (.byte 0) { waiting with ackStatus := some 0xCD }
    s.inbox = [] ∧ draws (.byte 0) s { waiting with ackStatus := some 0xCD } ∧ s.fsm = .awaitingAck ∧
      s.ackStatus = some 0xCD ∧ exchangeOf .getVersion s ∧ s.xsActive = false :=
  ⟨rfl, draws_listed _ _, rfl, rfl, exchangeOf_waiting, rfl⟩
theorem witness_HeaderAndPayloadBytesAreRead_empty_chunk :
    let s := drawing (.byte 0) { chunkSent with ackStatus := some 0xCD }
    s.inbox = [] ∧ draws (.byte 0) s { chunkSent with ackStatus := some 0xCD } ∧ s.fsm = .awaitingAck ∧
      s.ackStatus = some 0xCD ∧ exchangeOf .memoryWrite s ∧ s.xsActive = true :=
  ⟨rfl, draws_listed _ _, rfl, rfl, exchangeOf_chunkSent, rfl⟩
theorem witness_HeaderAndPayloadBytesAreRead_payload :
    let s := drawing (.byte 1) (reading 2)
    s.inbox = [] ∧ draws (.byte 1) s (reading 2) ∧ s.fsm = .awaitingPayload ∧ s.ackLen = some 2 ∧
      s.rxIdx.toNat + 1 < (2 : Byte).toNat := ⟨rfl, draws_listed _ _, rfl, rfl, by decide +kernel⟩
/-- No byte of the response read. -/
theorem witness_TimeoutReportsBytesRead_first :
    let s := drawing .timeout waiting
    s.inbox = [] ∧ draws .timeout s waiting ∧ s.fsm = .awaitingAck ∧ s.ackStatus = none ∧ s.xsActive = false :=
  ⟨rfl, draws_listed _ _, rfl, rfl, rfl⟩
/-- `CD` read (V2.6). -/
theorem witness_TimeoutReportsBytesRead_second :
    let s := drawing .timeout { waiting with ackStatus := some 0xCD }
    s.inbox = [] ∧ draws .timeout s { waiting with ackStatus := some 0xCD } ∧ s.fsm = .awaitingAck ∧
      s.ackStatus = some 0xCD ∧ s.xsActive = false := ⟨rfl, draws_listed _ _, rfl, rfl, rfl⟩
/-- `CD 04` read (V2.6), and 254 of 255 payload bytes. -/
theorem witness_TimeoutReportsBytesRead_payload :
    let s := drawing .timeout (reading 4)
    let t := drawing .timeout { reading 255 with rxIdx := 254 }
    (s.inbox = [] ∧ draws .timeout s (reading 4) ∧ s.fsm = .awaitingPayload ∧
      (∃ l, s.ackLen = some l ∧ s.rxIdx.toNat < l.toNat) ∧ (2 : Half).toNat = 2 + s.rxIdx.toNat ∧ s.xsActive = false) ∧
    (t.inbox = [] ∧ draws .timeout t { reading 255 with rxIdx := 254 } ∧ t.fsm = .awaitingPayload ∧
      (∃ l, t.ackLen = some l ∧ t.rxIdx.toNat < l.toNat) ∧ (256 : Half).toNat = 2 + t.rxIdx.toNat ∧
      t.xsActive = false) :=
  ⟨⟨rfl, draws_listed _ _, rfl, ⟨4, rfl, by decide +kernel⟩, rfl, rfl⟩,
    ⟨rfl, draws_listed _ _, rfl, ⟨255, rfl, by decide +kernel⟩, rfl, rfl⟩⟩
/-- In a transfer: before the header, after its first byte, and in the payload. -/
theorem witness_TimeoutReportsBytesRead_transfer :
    let s := drawing .timeout chunkSent
    let t := drawing .timeout { chunkSent with ackStatus := some 0xCD }
    let u := drawing .timeout (chunkReading 1)
    (s.inbox = [] ∧ draws .timeout s chunkSent ∧ s.fsm = .awaitingAck ∧ s.ackStatus = none ∧ s.xsActive = true) ∧
    (t.inbox = [] ∧ draws .timeout t { chunkSent with ackStatus := some 0xCD } ∧ t.fsm = .awaitingAck ∧
      t.ackStatus = some 0xCD ∧ t.xsActive = true) ∧
    (u.inbox = [] ∧ draws .timeout u (chunkReading 1) ∧ u.fsm = .awaitingPayload ∧
      (∃ l, u.ackLen = some l ∧ u.rxIdx.toNat < l.toNat) ∧ (2 : Half).toNat = 2 + u.rxIdx.toNat ∧ u.xsActive = true) :=
  ⟨⟨rfl, draws_listed _ _, rfl, rfl, rfl⟩, ⟨rfl, draws_listed _ _, rfl, rfl, rfl⟩,
    ⟨rfl, draws_listed _ _, rfl, ⟨1, rfl, by decide +kernel⟩, rfl, rfl⟩⟩
theorem witness_ChunkResponseUpdatesTheSession :
    let s := { chunkDue with fsm := .decoded, ackLen := some 1, rxbuf := [7], xsCurLen := 1 }
    s.fsm = .decoded ∧ s.xsActive = true ∧ s.ackLen = some (1 : Byte) ∧ s.rxbuf = [7] ∧
      ([7] : List Byte).length = (1 : Byte).toNat := ⟨rfl, rfl, rfl, rfl, rfl⟩
theorem witness_PacingGoesOnCancelsOrEnds_goes_on : between.inbox = [] ∧ between.fsm = .pacing ∧
    between.xsSent.toNat < between.xsTotal.toNat ∧ between.cancelLatch = false := by decide +kernel
theorem witness_PacingGoesOnCancelsOrEnds_cancels :
    let s := { between with cancelLatch := true }
    s.inbox = [] ∧ s.fsm = .pacing ∧ s.xsSent.toNat < s.xsTotal.toNat ∧ s.cancelLatch = true := by decide +kernel
theorem witness_PacingGoesOnCancelsOrEnds_ends :
    let s := { between with xsSent := 129 }
    s.inbox = [] ∧ s.fsm = .pacing ∧ s.xsTotal.toNat ≤ s.xsSent.toNat := by decide +kernel
/-- 0 bytes of 1, and 127 of 128. -/
theorem witness_ShortImageAbortsBeforeWriting :
    let s := { chunkDue with imageSource := [] }
    let t := { chunkDue with xsCurLen := 128, imageSource := List.replicate 127 0 }
    (s.inbox = [] ∧ s.fsm = .encoding ∧ s.xsCurLen.toNat ≤ 128 ∧ s.imageSource.length < s.xsCurLen.toNat) ∧
    (t.inbox = [] ∧ t.fsm = .encoding ∧ t.xsCurLen.toNat ≤ 128 ∧ t.imageSource.length < t.xsCurLen.toNat) := by
  decide +kernel
theorem witness_ResetInputResetsTheRegistersOnly : ({ waiting with inbox :=
    [.reset] } : State).inbox = .reset :: [] := rfl

/-- A transfer's state with the invariant, in which the next step aborts (the image source is empty). -/
theorem witness_inv_chunkDue : Inv { chunkDue with imageSource := [] } := by
  constructor <;> try (simp [chunkDue, atReset, State.reset, Regs.reset, Fsm.busy]; done)
  intro _
  refine ⟨⟨0x50, oneByte⟩, 0x08000000, 1, rfl, rfl, ?_⟩
  constructor <;> simp [chunkDue, atReset, State.reset, Regs.reset]
/-- A header placed in the reset machine stands in an exchange, so that no run from there reaches a fault. -/
theorem test_placed_header_inv : Inv (State.reset.withFetchWord 8 0xCD) := by
  constructor <;> simp [State.withFetchWord, placeTableWord, isHeaderWord, madeToWait, madeFree, accept, clearExchange,
    State.reset, Regs.reset, Fsm.busy]
  exact ⟨.getVersion, by decide⟩
theorem witness_EveryStepKeepsTheInvariant : Inv { chunkDue with imageSource := [] } ∧
    ∃ t, step { chunkDue with imageSource := [] } = .next t ∧ t.fsm = .aborted :=
  ⟨witness_inv_chunkDue, next_of_seen (by decide +kernel)⟩
theorem witness_EveryStepAnswersANextState : Inv { chunkDue with imageSource := [] } := witness_inv_chunkDue
theorem witness_EveryStepAnswersANextState_faults :
    let s := { read 1 [0] with ackLen := none }
    let t := { reading 1 with ackLen := none }
    let u := { read 1 [0] with req := none }
    (s.fsm = .decoded ∧ s.ackLen = none) ∧ (t.inbox = [] ∧ t.fsm = .awaitingPayload ∧ t.ackLen = none) ∧
      (u.inbox = [] ∧ u.fsm = .decoded ∧ u.req = none) :=
  ⟨⟨rfl, rfl⟩, ⟨rfl, rfl, rfl⟩, ⟨rfl, rfl, rfl⟩⟩
theorem witness_AbortedTransferReportsFullChunks : Inv { chunkDue with imageSource := [] } ∧
    ({ chunkDue with imageSource := [] } : State).inbox = [] ∧
    ({ chunkDue with imageSource := [] } : State).xsActive = true ∧
    ∃ t, step { chunkDue with imageSource := [] } = .next t ∧ t.fsm = .aborted :=
  ⟨witness_inv_chunkDue, rfl, rfl, next_of_seen (by decide +kernel)⟩
theorem witness_SequencerMovesByTheTable : ∃ t, step chunkDue = .next t ∧ t.fsm = .transmitting :=
  next_of_seen (by decide +kernel)
theorem witness_OnlyFrameBytesReachTheWire : ∃ t, step (sending 5) = .next t ∧ t.chanTx = [0x4C] :=
  next_of_seen (by decide +kernel)
theorem witness_ReadsOnlyWhileAwaiting : chunkDue.inbox = [] ∧
    (∃ t, step chunkDue = .next t ∧ t.fsm = .transmitting) ∧ chunkDue.fsm ≠ .awaitingAck ∧
    chunkDue.fsm ≠ .awaitingPayload := ⟨rfl, next_of_seen (by decide +kernel), by decide +kernel⟩
/-- A step that reads a listed draw. -/
theorem witness_ReadsOnlyWhileAwaiting_reads :
    let s := drawing (.byte 0xCD) waiting
    s.inbox = [] ∧ ∃ t, step s = .next t ∧ t.chanRx = [] := ⟨rfl, next_of_seen (by decide +kernel)⟩
theorem witness_RequestEndsWithOneResponse : between.inbox = [] ∧
    ∃ t, step between = .next t ∧ t.fsm = .encoding := ⟨rfl, next_of_seen (by decide +kernel)⟩
/-- A step that ends a request. -/
theorem witness_RequestEndsWithOneResponse_ends :
    let s := drawing (.byte 0x7F) waiting
    s.inbox = [] ∧ s.fsm.busy = true ∧ ∃ t, step s = .next t ∧ t.fsm.busy = false :=
  ⟨rfl, rfl, next_of_seen (by decide +kernel)⟩
theorem witness_OpcodesAreDistinctAndNeverChange : ∃ t, step chunkDue = .next t ∧ t.opcodes = testOpcodes :=
  next_of_seen (by decide +kernel)
theorem witness_FailedChunkIsNeverForgotten : ({ between with xsAllOk := false } : State).inbox = [] ∧
    (∃ t, step { between with xsAllOk := false } = .next t ∧ t.fsm = .encoding) ∧
    ({ between with xsAllOk := false } : State).xsAllOk = false := ⟨rfl, next_of_seen (by decide +kernel), rfl⟩
theorem witness_LatchIsReadAtBoundariesOnly : chunkDue.inbox = [] ∧ chunkDue.fsm ≠ .pacing ∧
    ∃ t, step chunkDue = .next t ∧ t.fsm = .transmitting :=
  ⟨rfl, by decide +kernel, next_of_seen (by decide +kernel)⟩
theorem witness_FrameIsWrittenWhole : (sending 0).inbox = [] ∧ (sending 0).fsm = .transmitting ∧
    (sending 0).txbuf.length ≤ 139 ∧ (sending 0).txIdx.toNat < (sending 0).txbuf.length :=
  ⟨rfl, rfl, by decide +kernel, by decide +kernel⟩
/-- P2. -/
theorem witness_SingleShotExchangeRunsToItsEnd :
    let s := { atReset with
      inbox := [.request ⟨0x40, sel 1⟩], chanRx := [.byte 0xCD, .byte 4, .byte 1, .byte 2, .byte 0, .byte 3] }
    free s ∧ s.xsActive = false ∧ s.inbox = [.request ⟨0x40, sel 1⟩] ∧
      Command.ofSelector (sel 1).cmd = some .getVersion ∧ Command.getVersion ≠ .memoryWrite ∧
      inRange (sel 1) .getVersion ∧ ([1, 2, 0, 3] : List Byte).length = (4 : Byte).toNat ∧
      s.chanRx = .byte 0xCD :: .byte 4 :: ([1, 2, 0, 3] : List Byte).map .byte ++ [] :=
  ⟨.inl rfl, rfl, rfl, rfl, by decide, by simp [inRange], rfl, rfl⟩
/-- One chunk of one byte, acknowledged with status 1. -/
theorem witness_TransferRunsToItsEnd :
    let s := { atReset with
      inbox := [.request ⟨0x50, oneByte⟩], imageSource := [0xAA], chanRx := [.byte 0xCD, .byte 1, .byte 1] }
    free s ∧ s.inbox = [.request ⟨0x50, oneByte⟩] ∧ 0 < oneByte.len64.toNat ∧
      oneByte.a32.toNat + oneByte.len64.toNat ≤ 2 ^ 32 ∧ oneByte.len64.toNat ≤ s.imageSource.length ∧
      ([1] : List Byte).length = (oneByte.len64.toNat + 127) / 128 ∧
      s.chanRx = (([1] : List Byte).flatMap fun x => [.byte 0xCD, .byte 1, .byte x]) ++ [] :=
  ⟨.inl rfl, rfl, by decide, by decide, by decide, by decide, rfl⟩

end Sys2Proof.Tests
end

namespace Sys2Proof.Machine
open Sys2Proof Sys2Proof.Spec

/-! ### Steps and instructions of an exchange -/

/-- One ChanRead is the draw that the statements speak of (R43). -/
theorem chanRead_of_draws {d : RxDraw} {s u : State} (h : draws d s u) : chanRead s = (d, u) := by
  rcases h with ⟨ds, hd, rfl⟩ | ⟨hnil, rfl, rfl⟩
  · simp [chanRead, hd]
  · simp [chanRead, hnil]

/-- A ChanRead changes no register (R43). -/
theorem toRegs_of_draws {d : RxDraw} {s u : State} (h : draws d s u) : u.toRegs = s.toRegs := by
  rcases h with ⟨ds, -, rfl⟩ | ⟨-, -, rfl⟩ <;> rfl

/-- A request whose transfer or single exchange is one of `c` runs the exchange of `c` (R19). -/
theorem exchangeCommand_of_transferOf {q : Request} (h : (transferOf q).isSome = true) :
    exchangeCommand q = some .memoryWrite := by
  unfold transferOf at h
  split at h
  · rename_i hq
    rcases hq with hq | ⟨hq, hsel⟩
    · simp [exchangeCommand, hq]
    · simp [exchangeCommand, hq, hsel]
  · cases h

theorem exchangeCommand_of_singleExchangeOf {q : Request} {c : Command} (h : singleExchangeOf q = some c) :
    exchangeCommand q = some c := by
  unfold singleExchangeOf at h
  split at h
  · rename_i hq; simpa [exchangeCommand, hq] using h
  · split at h
    · rename_i hq; simpa [exchangeCommand, hq.1] using h
    · cases h

/-- Which exchange is in progress is a matter of `req` alone (R19). -/
theorem exchangeOf_of_req {c : Command} {s t : State} (h : exchangeOf c s) (hreq : t.req = s.req) : exchangeOf c t := by
  unfold exchangeOf at *; rwa [hreq]

/-- The end of the payload runs the command of the exchange in Decoded (R104). -/
theorem payloadComplete_of_exchangeOf {c : Command} {s : State} (h : exchangeOf c s) :
    payloadComplete s = finishCommand c { s with fsm := .decoded } := by
  obtain ⟨q, hreq, hsingle | ⟨htransfer, rfl⟩⟩ := h
  · exact payloadComplete_of_command hreq (exchangeCommand_of_singleExchangeOf hsingle)
  · exact payloadComplete_of_command hreq (exchangeCommand_of_transferOf htransfer)

/-- A wire command in Decoded is its decoder with the end of the exchange (log entry 8). -/
theorem exec_wireInstr_of_decoded (o : Operands) (c : Command) {s : State} (h : s.fsm = .decoded) :
    exec (wireInstr o c) s = finishCommand c s := by
  cases c
  case memoryWrite => simp [wireInstr, exec, execMemoryWrite, wireCommand, h, Fsm.busy]
  all_goals
    simp [wireInstr, exec, execGetVersion, execGetHelp, execGetChipId, execGetReadProtectionStatus,
      execJumpToAddress, execEraseFlash, execChangeReadProtectionLevel, execJumpToApplication, wireCommand, h]

/-- The end of an exchange reads `ack_len` (R32). -/
theorem finishCommand_of_no_ackLen (c : Command) {s : State} (h : s.ackLen = none) :
    finishCommand c s = .fault (.unwrittenRead .ackLen) := by
  cases c
  case memoryWrite => cases ha : s.xsActive <;> simp [finishCommand, finishChunk, finishSingle, h, ha]
  all_goals simp [finishCommand, finishSingle, h]

/-- A MemoryWrite of 1 to 128 bytes in Encoding builds its frame (R92, R99). -/
theorem exec_memoryWrite_of_encoding {s : State} (a : Word) {d : List Byte} (hf : s.fsm = .encoding)
    (hd : chunkLengthOk d.length = true) :
    exec (.memoryWrite a d) s = .next (buildFrame s.opcodes.memoryWrite (memoryWritePayload a d) s) := by
  simp [exec, execMemoryWrite, hf, Fsm.busy, wireCommand, encodeCommand, memoryWriteOperands, operandFault, hd,
    buildCommandFrame, framePayload, Opcodes.ofCommand]

/-- The last payload byte ends the exchange in the step that reads it (R104, T20). -/
theorem readPayloadByte_last {s u : State} {l b : Byte} (hl : s.ackLen = some l)
    (hlast : s.rxIdx.toNat + 1 = l.toNat) (hd : chanRead s = (.byte b, u)) (hidx : u.rxIdx = s.rxIdx) :
    readPayloadByte s = payloadComplete { u with rxbuf := u.rxbuf ++ [b], rxIdx := u.rxIdx + 1 } := by
  have hnext : (u.rxIdx + 1).toNat = l.toNat := by rw [hidx]; bv_omega
  simp only [readPayloadByte, hl, readHeld_some, hd, hnext, show s.rxIdx.toNat < l.toNat by omega, if_true,
    Nat.lt_irrefl, if_false]

/-- A second header byte of 0 ends the exchange in the step that reads it (R104, T17, T20). -/
theorem readAckLen_zero {s u : State} (hd : chanRead s = (.byte 0, u)) :
    readAckLen s =
      payloadComplete { u with ackLen := some 0, fsm := .awaitingPayload, rxbuf := [], rxIdx := 0 } := by
  simp [readAckLen, hd]

/-! ### The bits of STATUS -/

/-- A flag of STATUS stands at its place and nowhere else (R31). -/
theorem statusBit_getLsbD (b : Bool) {k i : Nat} (hi : i < 32) :
    (statusBit b k).getLsbD i = (b && decide (i = k)) := by
  have hk : (!decide (i < k) && decide (i - k = 0)) = decide (i = k) := by grind
  simp [statusBit, hi, BitVec.getLsbD_ofBool, ← hk, ← Bool.and_assoc, Bool.and_comm]

/-- STATUS bit by bit (R31). -/
theorem statusWord_getLsbD (s : State) {i : Nat} (hi : i < 32) :
    s.statusWord.getLsbD i =
      if i < 4 then s.fsm.code.getLsbD i
      else if i < 8 then s.err.code.getLsbD (i - 4)
      else (s.xsActive && decide (i = 8) || s.xsAllOk && decide (i = 9) || s.cancelLatch && decide (i = 10) ||
        s.xsUnknown && decide (i = 11)) := by
  have hcode : 4 ≤ i → s.fsm.code.getLsbD i = false := fun h => BitVec.getLsbD_of_ge _ _ h
  have herr : 8 ≤ i → s.err.code.getLsbD (i - 4) = false := fun h => BitVec.getLsbD_of_ge _ _ (by omega)
  simp only [State.statusWord, BitVec.getLsbD_or, statusBit_getLsbD _ hi, BitVec.getLsbD_shiftLeft,
    BitVec.getLsbD_setWidth]
  grind

end Sys2Proof.Machine

section
open Sys2Proof Sys2Proof.Machine Sys2Proof.Spec

/-- Settles O34: the composed word bit by bit. -/
theorem statusReturnsTheComposedWord : Obligations.StatusReturnsTheComposedWord := by
  intro o s
  have hbit := fun i (hi : i < 32) => statusWord_getLsbD s hi
  refine ⟨s.statusWord, rfl, ?fsm, ?err, ?active, ?allOk, ?latch, ?unknown, ?zero⟩
  case fsm =>
    apply BitVec.eq_of_getLsbD_eq
    intro i hi
    rw [BitVec.getLsbD_extractLsb', hbit _ (by omega)]
    simp [hi]
  case err =>
    apply BitVec.eq_of_getLsbD_eq
    intro i hi
    rw [BitVec.getLsbD_extractLsb', hbit _ (by omega)]
    simp [hi, show 4 + i < 8 by omega]
  case active => rw [hbit 8 (by decide)]; simp
  case allOk => rw [hbit 9 (by decide)]; simp
  case latch => rw [hbit 10 (by decide)]; simp
  case unknown => rw [hbit 11 (by decide)]; simp
  case zero =>
    apply BitVec.eq_of_getLsbD_eq
    intro i hi
    rw [BitVec.getLsbD_extractLsb', hbit _ (by omega)]
    grind

/-- Settles O38: a step is the block's own, and its reads lead to the instruction they fetch. -/
theorem stepRunsHeadersChunksAndDecoders : Obligations.StepRunsHeadersChunksAndDecoders := by
  intro s hnil
  rw [step_of_nil hnil]
  refine ⟨?header, ?chunk, ?lastByte, ?emptyPayload⟩
  case header =>
    intro b u hf hfirst hd
    simp [blockTurn, hf, hfirst, headerStep, chanRead_of_draws hd]
  case chunk =>
    rintro n hf rfl h1 h128 hlen
    have hk : chunkLengthOk s.xsCurLen.toNat = true := by simp [chunkLengthOk, h1, h128]
    refine ⟨_, exec_memoryWrite_of_encoding s.xsBase hf (by simpa [hlen] using hk), ?_⟩
    simp only [blockTurn, hf, chunkStep_of_full hf hk hlen]
    rfl
  case lastByte =>
    intro c l b u o hf hc hl hlast hd
    have hregs := toRegs_of_draws hd
    have hreq : u.req = s.req := congrArg Regs.req hregs
    have hturn : blockTurn s = readPayloadByte s := by simp only [blockTurn, hf]
    rw [hturn, readPayloadByte_last hl hlast (chanRead_of_draws hd) (by rw [hregs]),
      payloadComplete_of_exchangeOf (exchangeOf_of_req hc ?hreq), exec_wireInstr_of_decoded o c rfl, hregs]
    case hreq => exact hreq
  case emptyPayload =>
    intro c u o hf hsecond hc hd
    have hregs := toRegs_of_draws hd
    have hreq : u.req = s.req := congrArg Regs.req hregs
    have hturn : blockTurn s = readAckLen s := by simp [blockTurn, hf, hsecond]
    rw [hturn, readAckLen_zero (chanRead_of_draws hd),
      payloadComplete_of_exchangeOf (exchangeOf_of_req hc ?hreq), exec_wireInstr_of_decoded o c rfl]
    case hreq => exact hreq

end

namespace Sys2Proof.Machine
open Sys2Proof Sys2Proof.Spec

/-! ### The invariant in parts -/

/-- The registers that the bytes of an exchange leave alone. -/
def State.session (s : State) :
    Option Request × ErrCode × Half × Word × DWord × DWord × Bool × Byte × Bool :=
  (s.req, s.err, s.errInfo, s.xsBase, s.xsTotal, s.xsSent, s.xsActive, s.xsCurLen, s.cancelLatch)

/-- What the invariant says of a request whose exchange is on its way, wherever in the exchange it is: a single one,
or that of a chunk, whose transfer stands as in Encoding. -/
structure InExchange (s : State) : Prop where
  noErr : s.err = .none ∧ s.errInfo = 0
  latch : s.cancelLatch = true → s.xsActive = true
  single : s.xsActive = false → ∃ q c, s.req = some q ∧ singleExchangeOf q = some c
  chunk : s.xsActive = true →
    ∃ q b0 l, s.req = some q ∧ transferOf q = some (b0, l) ∧ TransferInv b0 l { s with fsm := .encoding }

/-- Outside Transmitting a transfer's arithmetic is a matter of the session registers (R29). -/
theorem TransferInv.of_session {b0 : Word} {l : DWord} {s t : State} (h : TransferInv b0 l s)
    (hst : t.session = s.session) (hp : t.fsm ≠ .pacing → s.fsm ≠ .pacing) (ht : t.fsm ≠ .transmitting) :
    TransferInv b0 l t := by
  simp only [State.session, Prod.mk.injEq] at hst
  obtain ⟨-, -, -, hbase, htotal, hsent, -, hlen, -⟩ := hst
  exact {
    inRange := h.inRange
    total := by rw [htotal, h.total]
    sentLe := by rw [hsent]; exact h.sentLe
    base := by rw [hbase, hsent, h.base]
    whole := by rw [hsent]; exact h.whole
    unfinished := fun hf => by rw [hsent]; exact h.unfinished (hp hf)
    inFlight := fun hf => by rw [hlen, hsent]; exact h.inFlight (hp hf)
    chunkFrame := fun hf => absurd hf ht }

/-- The bytes of an exchange do not touch its session. -/
theorem InExchange.of_session {s t : State} (h : InExchange s) (hst : t.session = s.session) : InExchange t := by
  have hst' : ({ t with fsm := .encoding } : State).session = ({ s with fsm := .encoding } : State).session := hst
  simp only [State.session, Prod.mk.injEq] at hst
  obtain ⟨hreq, herr, hinfo, -, -, -, hact, -, hlatch⟩ := hst
  refine ⟨by rw [herr, hinfo]; exact h.noErr, by rw [hlatch, hact]; exact h.latch, by rw [hact, hreq]; exact h.single,
    fun ha => ?_⟩
  obtain ⟨q, b0, l, hq, htr, hinv⟩ := h.chunk (hact ▸ ha)
  exact ⟨q, b0, l, hreq.trans hq, htr, hinv.of_session hst' (by simp) (by simp)⟩

/-- Between its steps a busy sequencer is in an exchange, or in Pacing. -/
theorem Inv.inExchange {s : State} (h : Inv s) (hb : s.fsm.busy = true) (hp : s.fsm ≠ .pacing) : InExchange s where
  noErr := h.busyErr hb
  latch := h.latch
  single := h.single hb
  chunk ha := by
    obtain ⟨q, b0, l, hq, htr, hinv⟩ := h.transfer ha
    exact ⟨q, b0, l, hq, htr, hinv.of_session rfl (fun _ => hp) (by simp)⟩

/-- An exchange keeps the invariant where the registers of its place are as R142 says. -/
theorem InExchange.inv {s : State} (h : InExchange s) (hb : s.fsm.busy = true) (hp : s.fsm ≠ .pacing)
    (hd : s.fsm ≠ .decoded) (henc : s.fsm = .encoding → s.xsActive = true)
    (htx : s.fsm = .transmitting → (s.txIdx.toNat < s.txbuf.length ∧ holdsFrame s) ∧
      (s.ackStatus = none ∧ s.ackLen = none) ∧
      (s.xsActive = true → ∃ d : List Byte, d.length = s.xsCurLen.toNat ∧
        s.txbuf = frameBytes (s.opcodes.ofCommand .memoryWrite) (memoryWritePayload s.xsBase d)))
    (hwhole : s.fsm = .awaitingAck ∨ s.fsm = .awaitingPayload →
      s.txIdx.toNat = s.txbuf.length ∨ ∃ o, s.req = some ⟨0x30, o⟩)
    (hack : s.fsm = .awaitingAck → s.ackStatus = none ∨ s.ackStatus = some Config.ackOk)
    (hpl : s.fsm = .awaitingPayload → s.ackStatus = some Config.ackOk ∧
      ∃ l, s.ackLen = some l ∧ s.rxIdx.toNat < l.toNat ∧ s.rxbuf.length = s.rxIdx.toNat) : Inv s where
  transmitting hf := (htx hf).1
  wholeFrame := hwhole
  fresh hf := (htx hf).2.1
  header := hack
  payload := hpl
  notDecoded := hd
  activeBusy _ := hb
  chunkStates hf := hf.elim (fun hf => absurd hf hp) henc
  latch := h.latch
  busyErr _ := h.noErr
  abortedErr hf := by simp [hf, Fsm.busy] at hb
  idleErr hf := by simp [hf, Fsm.busy] at hb
  single _ := h.single
  transfer ha := by
    obtain ⟨q, b0, l, hq, htr, hinv⟩ := h.chunk ha
    refine ⟨q, b0, l, hq, htr, ?_⟩
    exact { inRange := hinv.inRange, total := hinv.total, sentLe := hinv.sentLe, base := hinv.base
            whole := hinv.whole, unfinished := fun _ => hinv.unfinished (by simp)
            inFlight := fun _ => hinv.inFlight (by simp), chunkFrame := fun hf => (htx hf).2.2 ha }

theorem InExchange.inv_encoding {s : State} (h : InExchange s) (hf : s.fsm = .encoding) (ha : s.xsActive = true) :
    Inv s := by
  apply h.inv <;> simp [hf, Fsm.busy, ha]

theorem InExchange.inv_transmitting {s : State} (h : InExchange s) (hf : s.fsm = .transmitting)
    (hidx : s.txIdx.toNat < s.txbuf.length) (hframe : holdsFrame s) (hfresh : s.ackStatus = none ∧ s.ackLen = none)
    (hchunk : s.xsActive = true → ∃ d : List Byte, d.length = s.xsCurLen.toNat ∧
      s.txbuf = frameBytes (s.opcodes.ofCommand .memoryWrite) (memoryWritePayload s.xsBase d)) : Inv s := by
  refine h.inv ?_ ?_ ?_ ?_ (fun _ => ⟨⟨hidx, hframe⟩, hfresh, hchunk⟩) ?_ ?_ ?_ <;> simp [hf, Fsm.busy]

theorem InExchange.inv_awaitingAck {s : State} (h : InExchange s) (hf : s.fsm = .awaitingAck)
    (hwhole : s.txIdx.toNat = s.txbuf.length ∨ ∃ o, s.req = some ⟨0x30, o⟩)
    (hack : s.ackStatus = none ∨ s.ackStatus = some Config.ackOk) : Inv s := by
  refine h.inv ?_ ?_ ?_ ?_ ?_ (fun _ => hwhole) (fun _ => hack) ?_ <;> simp [hf, Fsm.busy]

theorem InExchange.inv_awaitingPayload {s : State} (h : InExchange s) (hf : s.fsm = .awaitingPayload)
    (hwhole : s.txIdx.toNat = s.txbuf.length ∨ ∃ o, s.req = some ⟨0x30, o⟩)
    (hack : s.ackStatus = some Config.ackOk) {l : Byte} (hl : s.ackLen = some l) (hidx : s.rxIdx.toNat < l.toNat)
    (hbuf : s.rxbuf.length = s.rxIdx.toNat) : Inv s := by
  refine h.inv ?_ ?_ ?_ ?_ ?_ (fun _ => hwhole) ?_ (fun _ => ⟨hack, l, hl, hidx, hbuf⟩) <;> simp [hf, Fsm.busy]

/-- In Pacing the invariant is that of the transfer. -/
theorem inv_pacing {s : State} {q : Request} {b0 : Word} {l : DWord} (hf : s.fsm = .pacing) (ha : s.xsActive = true)
    (herr : s.err = .none ∧ s.errInfo = 0) (hq : s.req = some q) (htr : transferOf q = some (b0, l))
    (hinv : TransferInv b0 l s) : Inv s := by
  constructor
  case transfer => exact fun _ => ⟨q, b0, l, hq, htr, hinv⟩
  all_goals simp [hf, Fsm.busy, ha, herr]

/-- With no request in progress the invariant is that of `err` (R146), with no transfer left (R30, R142). -/
theorem inv_of_free {s : State} (hf : s.fsm = if s.err.fatal then .aborted else .idle) (ha : s.xsActive = false)
    (hl : s.cancelLatch = false) : Inv s := by
  cases he : s.err.fatal <;> constructor <;> simp [hf, ha, hl, he, Fsm.busy]

/-- The invariant is about the registers, and only asks of the latch that a transfer is active (R30). -/
theorem Inv.of_regs_but_latch {s t : State} (h : Inv s) (hr : t.toRegs = { s.toRegs with cancelLatch := t.cancelLatch })
    (ho : t.opcodes = s.opcodes) (hl : t.cancelLatch = true → s.xsActive = true) : Inv t := by
  obtain ⟨r, e⟩ := s
  obtain ⟨r', e'⟩ := t
  obtain ⟨tx, rx, img, resp, inbox, n, ops⟩ := e
  generalize r'.cancelLatch = b at hr hl
  obtain rfl : r' = { r with cancelLatch := b } := hr
  obtain rfl : e'.opcodes = ops := ho
  refine ⟨h.transmitting, h.wholeFrame, h.fresh, h.header, h.payload, h.notDecoded, h.activeBusy, h.chunkStates, hl,
    h.busyErr, h.abortedErr, h.idleErr, h.single, fun ha => ?_⟩
  obtain ⟨q, b0, l, hq, htr, hinv⟩ := h.transfer ha
  exact ⟨q, b0, l, hq, htr, hinv.inRange, hinv.total, hinv.sentLe, hinv.base, hinv.whole, hinv.unfinished,
    hinv.inFlight, hinv.chunkFrame⟩

/-- What stands around the registers does not matter to the invariant. -/
theorem Inv.of_regs {s t : State} (h : Inv s) (hr : t.toRegs = s.toRegs) (ho : t.opcodes = s.opcodes) : Inv t :=
  h.of_regs_but_latch (by rw [hr]) ho (by rw [hr]; exact h.latch)

/-! ### Requests end -/

theorem inv_endRequest (e : ErrCode) (info : Half) (r : Option Result) {s : State} (ha : s.xsActive = false)
    (hl : s.cancelLatch = false) : Inv (endRequest e info r s) :=
  inv_of_free rfl ha hl

theorem inv_xferAbort (e : ErrCode) (info : Half) (s : State) : Inv (xferAbort e info s) := inv_of_free rfl rfl rfl

theorem inv_xferEnd (s : State) : Inv (xferEnd s) := inv_of_free rfl rfl rfl

/-- Outside a transfer the latch is clear (R30). -/
theorem InExchange.latch_eq_false {s : State} (h : InExchange s) (ha : s.xsActive = false) : s.cancelLatch = false :=
  Bool.eq_false_of_not_eq_true fun hl => by simp [h.latch hl] at ha

/-- An error in an exchange ends the request, or the transfer it is a chunk of (R119, R147). -/
theorem InExchange.inv_raiseInExchange {s : State} (h : InExchange s) {e : ErrCode} {info : Half} :
    Inv (raiseInExchange e info s) := by
  unfold raiseInExchange
  split
  · exact inv_xferAbort e info s
  · rename_i hna
    have ha : s.xsActive = false := by simpa using hna
    exact inv_endRequest e info none ha (h.latch_eq_false ha)

/-! ### Transfers -/

/-- A chunk that was answered advances the transfer (R29, R123). -/
theorem TransferInv.xferUpdate {b0 : Word} {l : DWord} {s : State} (h : TransferInv b0 l s) (hp : s.fsm ≠ .pacing)
    (p : Payload) : TransferInv b0 l { Machine.xferUpdate p s with fsm := .pacing } := by
  have hsent := h.unfinished hp
  have hlen := h.inFlight hp
  have hnext : (s.xsSent + s.xsCurLen.setWidth 64).toNat = s.xsSent.toNat + s.xsCurLen.toNat := by
    have := l.isLt
    rw [BitVec.toNat_add, BitVec.toNat_setWidth]; omega
  have hmod : s.xsSent.toNat % 128 = 0 := by
    rcases h.whole with hm | rfl
    · exact hm
    · omega
  exact {
    inRange := h.inRange
    total := h.total
    sentLe := by change BitVec.toNat (_ + _) ≤ _; omega
    base := by
      change s.xsBase + _ = b0 + BitVec.setWidth 32 (s.xsSent + _)
      rw [h.base, BitVec.setWidth_add _ _ (by decide), BitVec.add_assoc]; simp
    whole := by
      change BitVec.toNat (_ + _) % 128 = 0 ∨ _ + _ = l
      rw [← BitVec.toNat_inj, hnext]; omega
    unfinished := fun hf => absurd rfl hf
    inFlight := fun hf => absurd rfl hf
    chunkFrame := fun hf => by cases hf }

/-- The loop head of a transfer cancels, begins a chunk, or ends (R119, T23 to T25). -/
theorem inv_xferNext {s : State} (h : Inv s) (hf : s.fsm = .pacing) : Inv (xferNext s) := by
  have ha := h.chunkStates (.inl hf)
  rcases xferNext_cases s with ⟨-, -, hn⟩ | ⟨hlt, hlatch, hn⟩ | ⟨-, hn⟩ <;> rw [hn]
  · exact inv_xferAbort _ _ _
  · obtain ⟨q, b0, l, hq, htr, hinv⟩ := h.transfer ha
    have hlen := chunkBegin_xsCurLen_toNat s
    rw [hinv.total] at hlt hlen
    refine InExchange.inv_encoding ⟨h.busyErr (by simp [hf, Fsm.busy]), h.latch, ?_, fun _ => ?_⟩ rfl ha
    · simp [ha]
    · exact ⟨q, b0, l, hq, htr, hinv.inRange, hinv.total, hinv.sentLe, hinv.base, hinv.whole, fun _ => hlt,
        fun _ => hlen, fun hf => by cases hf⟩
  · exact inv_xferEnd s

/-! ### Outcomes that keep the invariant -/

/-- The outcome is a next state, and one with the invariant. -/
def KeepsInv (o : Out) : Prop := ∃ t, o = .next t ∧ Inv t

theorem keepsInv_next {t : State} (h : Inv t) : KeepsInv (.next t) := ⟨t, rfl, h⟩

/-- An error in an exchange, whatever was read before it, keeps the invariant. -/
theorem InExchange.keepsInv_raise {s t : State} (h : InExchange s) {e : ErrCode} {info : Half}
    (hst : t.session = s.session) : KeepsInv (.next (raiseInExchange e info t)) :=
  keepsInv_next (h.of_session hst).inv_raiseInExchange

/-! ### Requests -/

/-- The state in which a request's rule runs (R133). -/
structure Accepted (q : Request) (t : State) : Prop where
  req : t.req = some q
  noErr : t.err = .none ∧ t.errInfo = 0
  inactive : t.xsActive = false
  latch : t.cancelLatch = false

/-- With no request in progress none of its transfer is left (R30, R142). -/
theorem Inv.inactive_of_free {s : State} (h : Inv s) (hf : s.fsm.busy = false) :
    s.xsActive = false ∧ s.cancelLatch = false := by
  have ha : s.xsActive = false := Bool.eq_false_of_not_eq_true fun ha => by simp [h.activeBusy ha] at hf
  exact ⟨ha, Bool.eq_false_of_not_eq_true fun hl => by simp [h.latch hl] at ha⟩

theorem Inv.accepted {s : State} (h : Inv s) (hf : s.fsm.busy = false) (q : Request) : Accepted q (accept q s) := by
  obtain ⟨ha, hl⟩ := h.inactive_of_free hf
  exact ⟨by simp, by simp, by simp [ha], by simp [hl]⟩

/-- Issuing a request keeps the invariant if its rule does; a request that has to wait changes nothing. -/
theorem keepsInv_issue {q : Request} {rule : State → Out} {s : State} (h : Inv s)
    (hrule : ∀ t, Accepted q t → KeepsInv (rule t)) : KeepsInv (issue q rule s) := by
  cases hf : s.fsm.busy
  · rw [issue_of_free hf]; exact hrule _ (h.accepted hf q)
  · rw [issue_of_busy hf]; exact keepsInv_next h

/-- A rule that ends its request with no transfer begun. -/
theorem Accepted.keepsInv_end {q : Request} {s t : State} (h : Accepted q s) (e : ErrCode) (info : Half)
    (r : Option Result) (ha : t.xsActive = s.xsActive := by rfl) (hl : t.cancelLatch = s.cancelLatch := by rfl) :
    KeepsInv (.next (endRequest e info r t)) :=
  keepsInv_next (inv_endRequest e info r (ha.trans h.inactive) (hl.trans h.latch))

theorem Accepted.keepsInv_invalidParameter {q : Request} {s : State} (h : Accepted q s) (r : Reason) :
    KeepsInv (.next (invalidParameter r s)) :=
  h.keepsInv_end .invalidParameter r.code none

/-- A transfer begins as if a pacing interval ended with nothing sent (R119, R120). -/
theorem Accepted.keepsInv_sendImage {q : Request} {s : State} (h : Accepted q s) {b0 : Word} {l : DWord}
    (htr : transferOf q = some (b0, l)) : KeepsInv (.next (sendImage b0 l s)) := by
  unfold sendImage
  split
  · rename_i hrange
    have hstart : xferNext (xferStart b0 l s) = xferNext { xferStart b0 l s with fsm := .pacing } := rfl
    rw [hstart]
    refine keepsInv_next (inv_xferNext (inv_pacing rfl rfl h.noErr h.req htr ?_) rfl)
    exact {
      inRange := by simpa [transferRangeOk] using hrange
      total := rfl
      sentLe := Nat.zero_le _
      base := by simp
      whole := .inl rfl
      unfinished := fun hf => absurd rfl hf
      inFlight := fun hf => absurd rfl hf
      chunkFrame := fun hf => by cases hf }
  · exact h.keepsInv_invalidParameter .badRange

/-- The requests that do no more than `crc_acc` and a result. -/
theorem keepsInv_completes (q : Request) (r : State → Option Result) (crc : State → Word) {s : State} (h : Inv s) :
    KeepsInv (issue q (fun t => .next (complete (r t) { t with crcAcc := crc t })) s) :=
  keepsInv_issue h fun _ ht => ht.keepsInv_end .none 0 _

theorem keepsInv_encode (o : Operands) {s : State} (h : Inv s) : KeepsInv (execEncode o s) := by
  refine keepsInv_issue h fun t ht => ?_
  split
  · exact ht.keepsInv_invalidParameter _
  · split
    · exact ht.keepsInv_invalidParameter _
    · exact ht.keepsInv_end .none 0 _

theorem keepsInv_join32 (o : Operands) {s : State} (h : Inv s) : KeepsInv (execCodecJoin32 o s) := by
  refine keepsInv_issue h fun t ht => ?_
  split
  · exact ht.keepsInv_end .none 0 _
  · exact ht.keepsInv_invalidParameter _

theorem keepsInv_join16 (o : Operands) {s : State} (h : Inv s) : KeepsInv (execCodecJoin16 o s) := by
  refine keepsInv_issue h fun t ht => ?_
  split
  · exact ht.keepsInv_end .none 0 _
  · exact ht.keepsInv_invalidParameter _

/-- A DECODE goes to AwaitingAck (T10). -/
theorem keepsInv_decode (o : Operands) {s : State} (h : Inv s) : KeepsInv (execDecode o s) := by
  refine keepsInv_issue h fun t ht => ?_
  split
  · exact ht.keepsInv_invalidParameter _
  · rename_i c hc
    refine keepsInv_next
      (InExchange.inv_awaitingAck ⟨ht.noErr, ?_, fun _ => ?_, ?_⟩ rfl (.inr ⟨o, ht.req⟩) (.inl rfl))
    · simp [ht.latch]
    · exact ⟨_, c, ht.req, by simp [singleExchangeOf, hc]⟩
    · simp [ht.inactive]

/-- An EXECUTE goes to Transmitting with its command's frame (T5), or begins a transfer. -/
theorem keepsInv_execute (o : Operands) {s : State} (h : Inv s) : KeepsInv (execExecute o s) := by
  refine keepsInv_issue h fun t ht => ?_
  split
  · exact ht.keepsInv_invalidParameter _
  · rename_i hc
    exact ht.keepsInv_sendImage (by simp [transferOf, hc])
  · rename_i c hmw hc
    split
    · exact ht.keepsInv_invalidParameter _
    · rename_i hok
      refine keepsInv_next (InExchange.inv_transmitting ⟨ht.noErr, ?_, fun _ => ?_, ?_⟩ rfl ?_ ?_ ⟨rfl, rfl⟩ ?_)
      · simp [buildCommandFrame, ht.latch]
      · exact ⟨_, c, ht.req, by simpa [singleExchangeOf, hc] using hmw⟩
      · simp [buildCommandFrame, ht.inactive]
      · simp [buildCommandFrame]
      · exact ⟨c, framePayload c o, framePayload_length_le c o hok, rfl⟩
      · simp [buildCommandFrame, ht.inactive]

theorem keepsInv_sendImage (o : Operands) {s : State} (h : Inv s) : KeepsInv (execSendImage o s) :=
  keepsInv_issue h fun _ ht => ht.keepsInv_sendImage (by simp [transferOf])

/-- CANCEL sets the latch of an active transfer only (R139). -/
theorem keepsInv_cancel {s : State} (h : Inv s) : KeepsInv (execCancel s) := by
  have hb : (s.cancelLatch || s.xsActive) = true → s.xsActive = true := by
    rw [Bool.or_eq_true]; exact fun hb => hb.elim h.latch id
  exact keepsInv_next (h.of_regs_but_latch rfl rfl hb)

/-- Every request keeps the invariant. -/
theorem keepsInv_request (q : Request) {s : State} (h : Inv s) : KeepsInv (exec (decodeRequest q) s) := by
  unfold decodeRequest
  split
  · exact keepsInv_completes ⟨0x01, q.ops⟩ (fun _ => none) (fun _ => Config.crcInit) h
  · exact keepsInv_completes ⟨0x02, q.ops⟩ (fun _ => none) (fun t => crcStep t.crcAcc q.ops.p0) h
  · exact keepsInv_completes ⟨0x03, q.ops⟩ (fun t => some (.word t.crcAcc)) (fun t => t.crcAcc) h
  · exact keepsInv_completes ⟨0x04, q.ops⟩ (fun _ => some (.word (crc32 q.ops.data))) (fun _ => crc32 q.ops.data) h
  · exact keepsInv_completes ⟨0x10, q.ops⟩ (fun _ => some (.bytes (split32 q.ops.a32))) (fun t => t.crcAcc) h
  · exact keepsInv_join32 q.ops h
  · exact keepsInv_join16 q.ops h
  · exact keepsInv_encode q.ops h
  · exact keepsInv_decode q.ops h
  · exact keepsInv_execute q.ops h
  · exact keepsInv_sendImage q.ops h
  · exact keepsInv_cancel h
  · exact keepsInv_next (h.of_regs rfl rfl)
  · exact keepsInv_issue h fun _ ht => ht.keepsInv_invalidParameter _

/-! ### The block's own step -/

/-- The end of an exchange delivers its payload, or updates the transfer and enters Pacing (T20 to T22). -/
theorem InExchange.keepsInv_payloadComplete {s : State} (h : InExchange s) {l : Byte} (hl : s.ackLen = some l) :
    KeepsInv (payloadComplete s) := by
  cases ha : s.xsActive with
  | false =>
    obtain ⟨q, c, hq, hc⟩ := h.single ha
    rw [payloadComplete_of_exchangeOf ⟨q, hq, .inl hc⟩,
      finishCommand_single (s := { s with fsm := .decoded }) c ha hl]
    rcases deliverPayload_cases l (decodeResponse s.opcodes c l s.rxbuf) { s with fsm := .decoded } with
      hd | ⟨_, -, hd⟩
    all_goals
      rw [hd]; exact keepsInv_next (inv_endRequest _ _ _ ha (h.latch_eq_false ha))
  | true =>
    obtain ⟨q, b0, n, hq, htr, hinv⟩ := h.chunk ha
    rw [payloadComplete_of_exchangeOf ⟨q, hq, .inr ⟨by simp [htr], rfl⟩⟩,
      finishCommand_chunk (s := { s with fsm := .decoded }) ha hl]
    have hupd := hinv.xferUpdate (by simp) (decodeMemoryWrite l s.rxbuf)
    exact keepsInv_next (inv_pacing rfl ha h.noErr hq htr hupd)

/-- The chunk in flight is 1 to 128 bytes, so its step aborts or builds its frame (T11, T12). -/
theorem keepsInv_chunkStep {s : State} (h : Inv s) (hf : s.fsm = .encoding) : KeepsInv (chunkStep s) := by
  have hx := h.inExchange (by simp [hf, Fsm.busy]) (by simp [hf])
  obtain ⟨q, b0, l, -, -, hinv⟩ := h.transfer (h.chunkStates (.inr hf))
  have hlt := hinv.unfinished (by simp [hf])
  have hlen := hinv.inFlight (by simp [hf])
  have hk : chunkLengthOk s.xsCurLen.toNat = true := by simp [chunkLengthOk]; omega
  rcases Nat.lt_or_ge s.imageSource.length s.xsCurLen.toNat with hshort | hfull
  · rw [chunkStep_of_short hk hshort]
    exact keepsInv_next (inv_xferAbort _ _ _)
  · rw [chunkStep_of_full hf hk hfull]
    have htake : (s.imageSource.take s.xsCurLen.toNat).length = s.xsCurLen.toNat := by simp [hfull]
    refine keepsInv_next
      (InExchange.inv_transmitting (hx.of_session rfl) rfl ?_ ?_ ⟨rfl, rfl⟩ fun _ => ⟨_, htake, rfl⟩)
    · simp
    · exact ⟨.memoryWrite, _, by rw [memoryWritePayload_length, htake]; omega, rfl⟩

/-- A frame byte is written, and the last one leads to AwaitingAck (T13, T14). -/
theorem inv_transmitByte {s : State} (h : Inv s) (hf : s.fsm = .transmitting) : Inv (transmitByte s) := by
  have hx := h.inExchange (by simp [hf, Fsm.busy]) (by simp [hf])
  obtain ⟨hidx, hframe⟩ := h.transmitting hf
  obtain ⟨hstatus, hackLen⟩ := h.fresh hf
  have hnext : (s.txIdx + 1).toNat = s.txIdx.toNat + 1 := by
    obtain ⟨c, pl, hpl, hbuf⟩ := hframe
    rw [hbuf, frameBytes_length] at hidx
    bv_omega
  have hbyte := List.getElem?_eq_getElem hidx
  by_cases hmore : (s.txIdx + 1).toNat < s.txbuf.length
  · rw [transmitByte_go hbyte hmore]
    refine InExchange.inv_transmitting (hx.of_session rfl) hf hmore hframe ⟨hstatus, hackLen⟩ fun ha => ?_
    obtain ⟨_, _, _, -, -, hinv⟩ := h.transfer ha
    exact hinv.chunkFrame hf
  · rw [transmitByte_last hbyte hmore]
    have hend : (s.txIdx + 1).toNat = s.txbuf.length := by omega
    exact InExchange.inv_awaitingAck (hx.of_session rfl) rfl (.inl hend) (.inl hstatus)

/-- The status byte of the header (T15, T16, T18). -/
theorem keepsInv_headerStep {s : State} (h : Inv s) (hf : s.fsm = .awaitingAck) (hn : s.ackStatus = none) :
    KeepsInv (headerStep s) := by
  have hx := h.inExchange (by simp [hf, Fsm.busy]) (by simp [hf])
  obtain ⟨d, ds, n, hr⟩ := chanRead_frame s
  unfold headerStep
  rw [hr]
  cases d with
  | timeout => exact hx.keepsInv_raise rfl
  | byte b =>
    by_cases hb : b = Config.ackOk
    · simp only [decodeHeader, hb, if_true, exec, execAck, readStatus, hf, hn, and_self]
      exact keepsInv_next (InExchange.inv_awaitingAck (hx.of_session rfl) rfl (h.wholeFrame (.inl hf)) (.inr rfl))
    · simp only [decodeHeader, hb, if_false, exec, execNack, readStatus, hf, hn, and_self, if_true]
      exact hx.keepsInv_raise rfl

/-- The length byte of the header (T17, T18). -/
theorem keepsInv_readAckLen {s : State} (h : Inv s) (hf : s.fsm = .awaitingAck) (hn : s.ackStatus ≠ none) :
    KeepsInv (readAckLen s) := by
  have hx := h.inExchange (by simp [hf, Fsm.busy]) (by simp [hf])
  obtain ⟨d, ds, n, hr⟩ := chanRead_frame s
  unfold readAckLen
  rw [hr]
  cases d with
  | timeout => exact hx.keepsInv_raise rfl
  | byte b =>
    dsimp only
    split
    · exact InExchange.keepsInv_payloadComplete (hx.of_session rfl) rfl
    · have hpos : 0 < b.toNat := by bv_omega
      have hack := (h.header hf).resolve_left hn
      exact keepsInv_next
        (InExchange.inv_awaitingPayload (hx.of_session rfl) rfl (h.wholeFrame (.inl hf)) hack rfl hpos rfl)

/-- A payload byte (T18 to T20). -/
theorem keepsInv_readPayloadByte {s : State} (h : Inv s) (hf : s.fsm = .awaitingPayload) :
    KeepsInv (readPayloadByte s) := by
  have hx := h.inExchange (by simp [hf, Fsm.busy]) (by simp [hf])
  obtain ⟨hack, l, hl, hidx, hbuf⟩ := h.payload hf
  obtain ⟨d, ds, n, hr⟩ := chanRead_frame s
  simp only [readPayloadByte, hl, readHeld_some, hidx, if_true]
  rw [hr]
  cases d with
  | timeout => exact hx.keepsInv_raise rfl
  | byte b =>
    dsimp only
    split
    · rename_i hmore
      have hnext : (s.rxIdx + 1).toNat = s.rxIdx.toNat + 1 := by bv_omega
      exact keepsInv_next (InExchange.inv_awaitingPayload (hx.of_session rfl) hf (h.wholeFrame (.inr hf)) hack hl hmore
        (by simp only [List.length_append, List.length_singleton, hbuf, hnext]))
    · exact InExchange.keepsInv_payloadComplete (hx.of_session rfl) hl

/-- The block's own step, by the sequencer's state (R141). -/
theorem keepsInv_blockTurn {s : State} (h : Inv s) : KeepsInv (blockTurn s) := by
  unfold blockTurn
  split
  · exact keepsInv_next h
  · exact keepsInv_next h
  · exact keepsInv_chunkStep h ‹_›
  · exact keepsInv_next (inv_transmitByte h ‹_›)
  · split
    · exact keepsInv_headerStep h ‹_› ‹_›
    · exact keepsInv_readAckLen h ‹_› ‹_›
  · exact keepsInv_readPayloadByte h ‹_›
  · exact absurd ‹_› h.notDecoded
  · exact keepsInv_next (inv_xferNext h ‹_›)

/-- An input from outside: a request, a reset, or something around the registers. -/
theorem keepsInv_takeInput (x : Input) {s : State} (h : Inv s) : KeepsInv (takeInput x s) := by
  cases x with
  | request q => exact keepsInv_request q h
  | reset => exact keepsInv_next (inv_of_free rfl rfl rfl)
  | pass => exact keepsInv_blockTurn h
  | arrive ds => exact keepsInv_next (h.of_regs rfl rfl)
  | resetInputBuffer => exact keepsInv_next (h.of_regs rfl rfl)
  | positionImage bs => exact keepsInv_next (h.of_regs rfl rfl)
  | hostWrite bs => exact keepsInv_next (h.of_regs rfl rfl)

/-- From a state with the invariant a step answers a next state, and one with the invariant. -/
theorem keepsInv_step {s : State} (h : Inv s) : KeepsInv (step s) := by
  rcases step_cases s with ⟨x, rest, -, -, hstep⟩ | hstep <;> rw [hstep]
  · exact keepsInv_takeInput x (h.of_regs rfl rfl)
  · exact keepsInv_blockTurn h

end Sys2Proof.Machine

section
open Sys2Proof Sys2Proof.Machine Sys2Proof.Spec

/-- Settles O48: every step, an input's or the block's own, keeps the invariant. -/
theorem everyStepKeepsTheInvariant : Obligations.EveryStepKeepsTheInvariant := by
  intro s t h hstep
  obtain ⟨u, hu, hinv⟩ := keepsInv_step h
  rw [hstep] at hu
  cases hu
  exact hinv

/-- Settles O49: the invariant gives the registers their values; without one the read faults. -/
theorem everyStepAnswersANextState : Obligations.EveryStepAnswersANextState := by
  refine ⟨fun s h => ?next, fun o c s hf hl => ?command, fun s hnil hf hl => ?payload, fun s hnil hf hq => ?decoded⟩
  case next =>
    obtain ⟨t, ht, -⟩ := keepsInv_step h
    exact ⟨t, ht⟩
  case command => rw [exec_wireInstr_of_decoded o c hf, finishCommand_of_no_ackLen c hl]
  case payload => simp only [step_of_nil hnil, blockTurn, hf, readPayloadByte, hl, readHeld_none]
  case decoded => simp only [step_of_nil hnil, blockTurn, hf, payloadComplete, hq, readHeld_none]

end

namespace Sys2Proof.Machine
open Sys2Proof Sys2Proof.Spec

/-! ### What reaches the channel -/

/-- The channel as the machine holds it: both streams and the counter of the free draws (R35, log entry 3). -/
def State.channel (s : State) : List Byte × List RxDraw × Nat := (s.chanTx, s.chanRx, s.drawIdx)

/-- A next state of the outcome has the channel of `s`. -/
def KeepsChannel (s : State) (o : Out) : Prop := ∀ t, o = .next t → t.channel = s.channel

theorem keepsChannel_next {s t : State} (h : t.channel = s.channel) : KeepsChannel s (.next t) := by
  rintro _ ⟨rfl⟩; exact h

@[simp] theorem accept_channel (q : Request) (s : State) : (accept q s).channel = s.channel := by simp [State.channel]

@[simp] theorem raiseInExchange_channel (e : ErrCode) (info : Half) (s : State) :
    (raiseInExchange e info s).channel = s.channel := by
  unfold raiseInExchange; split <;> rfl

@[simp] theorem xferNext_channel (s : State) : (xferNext s).channel = s.channel := by
  rcases xferNext_cases s with ⟨-, -, hn⟩ | ⟨-, -, hn⟩ | ⟨-, hn⟩ <;> rw [hn] <;> rfl

@[simp] theorem sendImage_channel (b0 : Word) (l : DWord) (s : State) : (sendImage b0 l s).channel = s.channel := by
  unfold sendImage
  split
  · exact xferNext_channel _
  · rfl

@[simp] theorem deliverPayload_channel (l : Byte) (p : Payload) (s : State) :
    (deliverPayload l p s).channel = s.channel := by
  rcases deliverPayload_cases l p s with hd | ⟨_, -, hd⟩ <;> rw [hd] <;> rfl

/-- The end of an exchange touches no stream (R104). -/
theorem keepsChannel_payloadComplete (s : State) : KeepsChannel s (payloadComplete s) := by
  intro t h
  rcases payloadComplete_cases h with ⟨p, -, rfl⟩ | ⟨l, p, rfl⟩
  · rfl
  · exact deliverPayload_channel l p _

/-- Issuing a request touches no stream if its rule does not. -/
theorem keepsChannel_issue {q : Request} {rule : State → Out} {s : State}
    (hrule : ∀ t, KeepsChannel t (rule t)) : KeepsChannel s (issue q rule s) := by
  cases hf : s.fsm.busy
  · rw [issue_of_free hf]; exact fun t ht => (hrule _ t ht).trans (accept_channel q s)
  · rw [issue_of_busy hf]; exact keepsChannel_next rfl

theorem keepsChannel_encode (o : Operands) (s : State) : KeepsChannel s (execEncode o s) := by
  refine keepsChannel_issue fun t => ?_
  split
  · exact keepsChannel_next rfl
  · split <;> exact keepsChannel_next rfl

theorem keepsChannel_execute (o : Operands) (s : State) : KeepsChannel s (execExecute o s) := by
  refine keepsChannel_issue fun t => ?_
  split
  · exact keepsChannel_next rfl
  · exact keepsChannel_next (sendImage_channel _ _ t)
  · split <;> exact keepsChannel_next rfl

/-- No request touches a stream in the step that takes it (R134). -/
theorem keepsChannel_request (q : Request) (s : State) : KeepsChannel s (exec (decodeRequest q) s) := by
  unfold decodeRequest
  split <;> simp only [exec, execCrcInit, execCrcUpdate, execCrcRead, execCrcBlock, execCodecSplit32, execCodecJoin32,
    execCodecJoin16, execDecode, execSendImage, execReservedRequest]
  case h_8 => exact keepsChannel_encode q.ops s
  case h_10 => exact keepsChannel_execute q.ops s
  case h_12 | h_13 => exact keepsChannel_next rfl
  case h_11 => exact keepsChannel_issue fun t => keepsChannel_next (sendImage_channel _ _ t)
  case h_6 | h_7 | h_9 => exact keepsChannel_issue fun t => by split <;> exact keepsChannel_next rfl
  all_goals exact keepsChannel_issue fun t => keepsChannel_next rfl

/-- Writing a frame byte (R135): one byte of `txbuf` goes out, or, past the end of `txbuf`, none. -/
theorem transmitByte_channel (s : State) :
    (transmitByte s).channel = s.channel ∨
    ∃ b, s.txbuf[s.txIdx.toNat]? = some b ∧ (transmitByte s).channel = (s.chanTx ++ [b], s.chanRx, s.drawIdx) ∧
      (transmitByte s).txIdx = s.txIdx + 1 := by
  cases hb : s.txbuf[s.txIdx.toNat]? with
  | none => left; unfold transmitByte; rw [hb]; rfl
  | some b =>
    refine .inr ⟨b, rfl, ?_⟩
    by_cases hmore : (s.txIdx + 1).toNat < s.txbuf.length
    · rw [transmitByte_go hb hmore]; exact ⟨rfl, rfl⟩
    · rw [transmitByte_last hb hmore]; exact ⟨rfl, rfl⟩

/-- What the block's own step does to the channel: nothing, one byte of the frame written in Transmitting, or one draw
taken while a response is awaited (R47, R49). -/
theorem blockTurn_channel {s t : State} (h : blockTurn s = .next t) :
    t.channel = s.channel ∨
    (s.fsm = .transmitting ∧ ∃ b, s.txbuf[s.txIdx.toNat]? = some b ∧
      t.channel = (s.chanTx ++ [b], s.chanRx, s.drawIdx) ∧ t.txIdx = s.txIdx + 1) ∨
    ((s.fsm = .awaitingAck ∨ s.fsm = .awaitingPayload) ∧
      ∃ ds n, ReadOne s ds n ∧ t.channel = (s.chanTx, ds, n)) := by
  cases blockTurn_cases h with
  | waits _ heq => exact .inl (congrArg _ heq)
  | short _ _ _ heq => rw [heq]; exact .inl rfl
  | chunk _ _ _ heq => rw [heq]; exact .inl rfl
  | paces _ heq => rw [heq]; exact .inl (xferNext_channel s)
  | writes hf heq => rw [heq]; exact (transmitByte_channel s).imp_right fun hb => .inl ⟨hf, hb⟩
  | raises hf ds n _ e info hread _ heq =>
    rw [heq]; exact .inr (.inr ⟨hf, ds, n, hread, raiseInExchange_channel e info _⟩)
  | acknowledged hf _ ds n hread heq => exact .inr (.inr ⟨.inl hf, ds, n, hread, congrArg _ heq⟩)
  | header hf _ ds n _ hread heq => exact .inr (.inr ⟨.inl hf, ds, n, hread, congrArg _ heq⟩)
  | payload hf ds n _ hread heq => exact .inr (.inr ⟨.inr hf, ds, n, hread, congrArg _ heq⟩)
  | decodes hf ds n _ _ _ hread heq =>
    have hchan := keepsChannel_payloadComplete _ _ heq
    rcases hread with ⟨rfl, rfl⟩ | ⟨hnd, hread⟩
    · exact .inl hchan
    · exact .inr (.inr ⟨hf.imp_right fun hf => hf.resolve_right hnd, ds, n, hread, hchan⟩)

/-- What the block writes is the next byte of its frame (R47, R48). -/
theorem blockTurn_chanTx {s t : State} (h : blockTurn s = .next t) :
    t.chanTx = s.chanTx ∨
    (s.fsm = .transmitting ∧ ∃ b, s.txbuf[s.txIdx.toNat]? = some b ∧ t.chanTx = s.chanTx ++ [b] ∧
      t.txIdx = s.txIdx + 1) := by
  rcases blockTurn_channel h with hsame | ⟨hf, b, hb, hsent, hidx⟩ | ⟨-, ds, n, -, hread⟩
  · exact .inl (congrArg Prod.fst hsame)
  · exact .inr ⟨hf, b, hb, congrArg Prod.fst hsent, hidx⟩
  · exact .inl (congrArg Prod.fst hread)

/-! ### A frame on the wire -/

/-- A run takes one step after another. -/
theorem run_succ_of_next {M : Host.Core} {s t : M.State} (n : Nat) (h : M.step s = .next t) :
    M.run (n + 1) s = M.run n t := by
  simp only [Host.Core.run, h]

/-- With no input from outside a step in Transmitting writes the next frame byte (R135). -/
theorem step_of_transmitting {s : State} (hnil : s.inbox = []) (hf : s.fsm = .transmitting) :
    step s = .next (transmitByte s) := by
  rw [step_of_nil hnil]; simp only [blockTurn, hf]

/-- The last `n + 1` bytes of a frame are written in `n + 1` steps (R47, R135). -/
theorem run_transmitting (n : Nat) {s : State} (hnil : s.inbox = []) (hf : s.fsm = .transmitting)
    (hlen : s.txbuf.length ≤ 139) (hleft : s.txIdx.toNat + (n + 1) = s.txbuf.length) :
    core.run (n + 1) s = .next { s with
      chanTx := s.chanTx ++ s.txbuf.drop s.txIdx.toNat
      txIdx := BitVec.ofNat 8 s.txbuf.length, fsm := .awaitingAck } := by
  induction n generalizing s with
  | zero =>
    have hidx : s.txIdx.toNat < s.txbuf.length := by omega
    have hend : s.txIdx + 1 = BitVec.ofNat 8 s.txbuf.length := by bv_omega
    refine (run_succ_of_next (M := core) 0 (step_of_transmitting hnil hf)).trans ?_
    rw [transmitByte_last (List.getElem?_eq_getElem hidx) (by bv_omega), hend, List.drop_eq_getElem_cons hidx,
      List.drop_of_length_le (by omega)]
    rfl
  | succ n ih =>
    have hidx : s.txIdx.toNat < s.txbuf.length := by omega
    have hnext : (s.txIdx + 1).toNat = s.txIdx.toNat + 1 := by bv_omega
    have hleft' : (s.txIdx + 1).toNat + (n + 1) = s.txbuf.length := by omega
    refine (run_succ_of_next (M := core) (n + 1) (step_of_transmitting hnil hf)).trans ?_
    rw [transmitByte_go (List.getElem?_eq_getElem hidx) (by omega)]
    refine (ih (s := { s with chanTx := s.chanTx ++ [s.txbuf[s.txIdx.toNat]], txIdx := s.txIdx + 1 })
      hnil hf hlen hleft').trans ?_
    simp only [hnext, List.append_assoc, List.singleton_append, List.getElem_cons_drop]

/-! ### What a response draws -/

/-- With no input from outside a step that awaits the second header byte reads it (R103). -/
theorem step_of_second {s : State} {a : Byte} (hnil : s.inbox = []) (hf : s.fsm = .awaitingAck)
    (ha : s.ackStatus = some a) : step s = readAckLen s := by
  rw [step_of_nil hnil]; simp [blockTurn, hf, ha]

/-- With no input from outside a step in AwaitingPayload reads a payload byte (R104). -/
theorem step_of_awaitingPayload {s : State} (hnil : s.inbox = []) (hf : s.fsm = .awaitingPayload) :
    step s = readPayloadByte s := by
  rw [step_of_nil hnil]; simp only [blockTurn, hf]

/-- A second header byte other than 0 starts an empty payload (R103, T17). -/
theorem readAckLen_pos {s u : State} {b : Byte} (hd : chanRead s = (.byte b, u)) (hb : b ≠ 0) :
    readAckLen s = .next { u with ackLen := some b, fsm := .awaitingPayload, rxbuf := [], rxIdx := 0 } := by
  simp only [readAckLen, hd, hb, if_false]

/-- A payload byte that is not the last is appended (R104, T19). -/
theorem readPayloadByte_go {s u : State} {l b : Byte} (hl : s.ackLen = some l) (hlt : s.rxIdx.toNat + 1 < l.toNat)
    (hd : chanRead s = (.byte b, u)) (hregs : u.toRegs = s.toRegs) :
    readPayloadByte s = .next { u with rxbuf := s.rxbuf ++ [b], rxIdx := s.rxIdx + 1 } := by
  have hnext : (s.rxIdx + 1).toNat < l.toNat := by bv_omega
  simp only [readPayloadByte, hl, readHeld_some, hd, hregs, show s.rxIdx.toNat < l.toNat by omega, hnext, if_true]

/-- The payload of an empty response: GetHelp's empty list, and for any other command an unknown one (R105, R110). -/
theorem decodeResponse_empty (ops : Opcodes) (c : Command) :
    decodeResponse ops c 0 [] = if c = .getHelp then .help [] else .unknown [] := by
  cases c <;> rfl

/-- A timeout raises CHANNEL_TIMEOUT with the number of response bytes read before it (R103, R104, R144). -/
theorem step_of_timeout {s u : State} {k : Half} (hnil : s.inbox = []) (hd : chanRead s = (.timeout, u))
    (hk : s.fsm = .awaitingAck ∧ s.ackStatus = none ∧ k = 0 ∨
      s.fsm = .awaitingAck ∧ s.ackStatus = some 0xCD ∧ k = 1 ∨
      s.fsm = .awaitingPayload ∧ (∃ l, s.ackLen = some l ∧ s.rxIdx.toNat < l.toNat) ∧ k.toNat = 2 + s.rxIdx.toNat) :
    step s = .next (raiseInExchange .channelTimeout k u) := by
  rcases hk with ⟨hf, hfirst, rfl⟩ | ⟨hf, hsecond, rfl⟩ | ⟨hf, ⟨l, hl, hlt⟩, hk⟩
  · rw [step_of_nil hnil]; simp [blockTurn, hf, hfirst, headerStep, hd]
  · simp only [step_of_second hnil hf hsecond, readAckLen, hd]
  · have hcount : 2 + s.rxIdx.setWidth 16 = k := by bv_omega
    simp only [step_of_awaitingPayload hnil hf, readPayloadByte, hl, readHeld_some, hlt, if_true, hd, hcount]

end Sys2Proof.Machine

section
open Sys2Proof Sys2Proof.Machine Sys2Proof.Spec

/-- Settles O51: an input is the host's own write or touches no stream, and the block writes in Transmitting only. -/
theorem onlyFrameBytesReachTheWire : Obligations.OnlyFrameBytesReachTheWire := by
  intro s t h
  rcases step_cases s with ⟨x, rest, hx, henabled, hstep⟩ | hstep <;> rw [hstep] at h
  · cases x with
    | request q => exact .inl (congrArg Prod.fst (keepsChannel_request q _ t h))
    | pass => exact (blockTurn_chanTx h).imp_right .inl
    | hostWrite bs =>
      cases h
      have hfree : s.fsm.busy = false := by simpa [Input.enabled] using henabled
      exact .inr (.inr ⟨busy_eq_false.1 hfree, bs, by simp [hx], rfl⟩)
    | reset | arrive ds | resetInputBuffer | positionImage bs => cases h; exact .inl rfl
  · exact (blockTurn_chanTx h).imp_right .inl

/-- Settles O52: the block's step draws while a response is awaited only, and then once. -/
theorem readsOnlyWhileAwaiting : Obligations.ReadsOnlyWhileAwaiting := by
  intro s t hnil h
  rw [step_of_nil hnil] at h
  rcases blockTurn_channel h with hchan | ⟨-, b, -, hchan, -⟩ | ⟨hf, ds, n, hread, hchan⟩
  all_goals
    simp only [State.channel, Prod.mk.injEq] at hchan
    obtain ⟨-, hrx, hn⟩ := hchan
  · exact ⟨fun _ _ => ⟨hrx, hn⟩, .inl ⟨hn, .inl hrx⟩⟩
  · exact ⟨fun _ _ => ⟨hrx, hn⟩, .inl ⟨hn, .inl hrx⟩⟩
  · refine ⟨fun ha hp => absurd hf (by simp [ha, hp]), ?_⟩
    rcases hread with ⟨d, hd, rfl⟩ | ⟨hempty, rfl, rfl⟩
    · exact .inl ⟨hn, .inr (by simp [hrx, hd])⟩
    · exact .inr ⟨hempty, hrx, hn⟩

/-- Settles O58, by induction on the number of bytes left. -/
theorem frameIsWrittenWhole : Obligations.FrameIsWrittenWhole := by
  intro s hnil hf hlen hidx
  obtain ⟨n, hn⟩ : ∃ n, s.txbuf.length - s.txIdx.toNat = n + 1 := ⟨_, (Nat.succ_pred_eq_of_pos (by omega)).symm⟩
  rw [hn]
  exact run_transmitting n hnil hf hlen (by omega)

/-- Settles O40: the byte drawn is the second header byte, and 0 ends the exchange; or it is a payload byte. -/
theorem headerAndPayloadBytesAreRead : Obligations.HeaderAndPayloadBytesAreRead := by
  intro s u b hnil hdraws
  have hd := chanRead_of_draws hdraws
  have hregs := toRegs_of_draws hdraws
  have hreq : u.req = s.req := congrArg Regs.req hregs
  refine ⟨?length, ?empty, ?emptyChunk, ?payload⟩
  case length =>
    intro hf hsecond hb
    rw [step_of_second hnil hf hsecond, readAckLen_pos hd hb]
  case empty =>
    rintro c hf hsecond rfl hc hinactive
    rw [step_of_second hnil hf hsecond, readAckLen_zero hd,
      payloadComplete_of_exchangeOf (exchangeOf_of_req hc (by exact hreq)),
      finishCommand_single c (by simp [hregs, hinactive]) rfl, decodeResponse_empty]
    by_cases hhelp : c = .getHelp
    · simp only [hhelp, if_true]; rfl
    · simp only [hhelp, if_false]; rfl
  case emptyChunk =>
    rintro hf hsecond rfl hc hactive
    rw [step_of_second hnil hf hsecond, readAckLen_zero hd,
      payloadComplete_of_exchangeOf (exchangeOf_of_req hc (by exact hreq)),
      finishCommand_chunk (by simp [hregs, hactive]) rfl]
    simp [xferUpdate, decodeMemoryWrite, hregs]
  case payload =>
    intro l hf hl hlt
    rw [step_of_awaitingPayload hnil hf, readPayloadByte_go hl hlt hd hregs]

/-- Settles O41: each of the three reads raises CHANNEL_TIMEOUT with the bytes read before it. -/
theorem timeoutReportsBytesRead : Obligations.TimeoutReportsBytesRead := by
  intro s u hnil hdraws k hk
  have hactive : u.xsActive = s.xsActive := congrArg Regs.xsActive (toRegs_of_draws hdraws)
  rw [step_of_timeout hnil (chanRead_of_draws hdraws) hk, raiseInExchange, hactive]
  exact ⟨fun ha => by rw [ha]; rfl, fun ha => by rw [ha]; rfl⟩

/-- Settles O44: the chunk step aborts on a short read. -/
theorem shortImageAbortsBeforeWriting : Obligations.ShortImageAbortsBeforeWriting := by
  intro s hnil hf hlen hshort
  have hk : chunkLengthOk s.xsCurLen.toNat = true := by simp [chunkLengthOk, hlen]; omega
  rw [step_of_nil hnil]
  simp only [blockTurn, hf, chunkStep_of_short hk hshort]
  rfl

end

namespace Sys2Proof.Machine
open Sys2Proof Sys2Proof.Spec

/-! ### Selectors and opcodes -/

/-- The opcode parameters of R57 in two parts: the implemented commands, then the reserved operations. -/
theorem opcodes_toList_eq (p : Opcodes) :
    p.toList = Command.all.map p.ofCommand ++ ReservedOp.all.map p.ofReserved := rfl

theorem command_mem_all (c : Command) : c ∈ Command.all := by cases c <;> decide

/-- Distinct parameters tell the commands apart (R57). -/
theorem ofCommand_injective {p : Opcodes} (h : p.distinct) : Function.Injective p.ofCommand := by
  rw [Opcodes.distinct, opcodes_toList_eq] at h
  exact fun a b hab => List.inj_on_of_nodup_map h.of_append_left (command_mem_all a) (command_mem_all b) hab

/-- The opcode of a command finds the command (R57). -/
theorem findCommand_ofCommand {p : Opcodes} (h : p.distinct) (c : Command) :
    p.findCommand (p.ofCommand c) = some c := by
  have hsame : (p.ofCommand · == p.ofCommand c) = (· == c) := by
    funext a
    simp [(ofCommand_injective h).eq_iff]
  rw [Opcodes.findCommand, hsame]
  cases c <;> rfl

/-- The command found has the opcode looked for, whether or not the parameters differ. -/
theorem ofCommand_of_findCommand {p : Opcodes} {x : Byte} {c : Command} (h : p.findCommand x = some c) :
    p.ofCommand c = x := by
  simpa using List.find?_some h

/-! ### Byte order -/

/-- Joining the bytes of a word gives the word (R84). -/
theorem join32_byteOf (v : Word) : join32 (byteOf v 1) (byteOf v 2) (byteOf v 3) (byteOf v 4) = v := by
  have hhigh : v.extractLsb' 24 8 ++ v.extractLsb' 16 8 = v.extractLsb' 16 16 :=
    BitVec.extractLsb'_append_extractLsb'_eq_extractLsb' rfl
  have hupper : v.extractLsb' 16 16 ++ v.extractLsb' 8 8 = v.extractLsb' 8 24 :=
    BitVec.extractLsb'_append_extractLsb'_eq_extractLsb' rfl
  have hall : v.extractLsb' 8 24 ++ v.extractLsb' 0 8 = v.extractLsb' 0 32 :=
    BitVec.extractLsb'_append_extractLsb'_eq_extractLsb' rfl
  simp only [join32_eq, byteOf_eq, Nat.reduceSub, Nat.reduceMul]
  rw [hhigh, hupper, hall, BitVec.extractLsb'_eq_self]

/-- Splitting joined bytes gives the bytes (R84). -/
theorem split32_join32 (b1 b2 b3 b4 : Byte) : split32 (join32 b1 b2 b3 b4) = [b1, b2, b3, b4] := by
  have hbytes : ∀ i, 1 ≤ i → i ≤ 4 → byteOf (join32 b1 b2 b3 b4) i = [b1, b2, b3, b4].getD (i - 1) 0 := by
    intro i h1 h4
    rw [byteOf_eq]
    ext k hk
    interval_cases i <;> interval_cases k <;> simp [join32]
  simp [split32, hbytes]

/-! ### The layout of R55 -/

/-- R55's byte order is that of the codec (R37, R81). -/
theorem le32_eq_split32 (v : Word) : le32 v = split32 v := (split32_eq v).symm

/-- The table of R55 is the body the encoder builds (R89). -/
theorem layout_eq_frameBody (p : Opcodes) (o : Operands) (c : Command) :
    layout p o c = frameBody (p.ofCommand c) (framePayload c o) := by
  cases c
  case memoryWrite =>
    simp [layout, frameBody, framePayload, memoryWritePayload, le32_eq_split32, Opcodes.ofCommand,
      show 4 + (o.data.length + 1) + 5 = 10 + o.data.length by omega]
  all_goals simp [layout, frameBody, framePayload, le32_eq_split32, Opcodes.ofCommand]

/-- The frame of R55 is the frame the encoder builds (R53, R89). -/
theorem frame_eq_frameBytes (p : Opcodes) (o : Operands) (c : Command) :
    frame p o c = frameBytes (p.ofCommand c) (framePayload c o) := by
  rw [frame, layout_eq_frameBody, le32_eq_split32, frameBytes]

/-- The operand check passes exactly the operands in range (R91, R92, R100). -/
theorem operandFault_eq_none_iff (c : Command) (o : Operands) : operandFault c o = none ↔ inRange o c := by
  cases c <;> simp [operandFault, inRange, levelOk, chunkLengthOk, or_iff_not_imp_left]

/-! ### Wire commands and their frames -/

/-- A wire command is well formed when its operands pass the encoder's check (R92, R100). -/
theorem wellFormed_wireInstr (o : Operands) (c : Command) :
    (wireInstr o c).wellFormed = true ↔ operandFault c o = none := by
  cases c <;> simp [wireInstr, Instr.wellFormed, operandFault]

/-- The frame of a wire command: its opcode and the payload of its operands (R55). -/
theorem encodeFrame_wireInstr (p : Opcodes) (o : Operands) (c : Command) :
    encodeFrame p (wireInstr o c) = some (frameBytes (p.ofCommand c) (framePayload c o)) := by
  cases c <;> rfl

/-- Only the nine wire commands have a frame (R57, R59). -/
theorem exists_wireInstr_of_encodeFrame {p : Opcodes} {i : Instr} {fs : List Byte} (h : encodeFrame p i = some fs) :
    ∃ o c, i = wireInstr o c := by
  cases i
  case getVersion => exact ⟨Operands.zero, .getVersion, rfl⟩
  case getHelp => exact ⟨Operands.zero, .getHelp, rfl⟩
  case getChipId => exact ⟨Operands.zero, .getChipId, rfl⟩
  case getReadProtectionStatus => exact ⟨Operands.zero, .getReadProtectionStatus, rfl⟩
  case jumpToAddress a => exact ⟨{ Operands.zero with a32 := a }, .jumpToAddress, rfl⟩
  case eraseFlash s k => exact ⟨{ Operands.zero with p0 := s, p1 := k }, .eraseFlash, rfl⟩
  case memoryWrite a d => exact ⟨{ Operands.zero with a32 := a, data := d }, .memoryWrite, rfl⟩
  case changeReadProtectionLevel v => exact ⟨{ Operands.zero with p0 := v }, .changeReadProtectionLevel, rfl⟩
  case jumpToApplication => exact ⟨Operands.zero, .jumpToApplication, rfl⟩
  all_goals cases h

/-- The payload of a command's operands reads back as the command with these operands (R55). -/
theorem decodePayloadLayout_framePayload {c : Command} {o : Operands} (h : operandFault c o = none) :
    decodePayloadLayout c (framePayload c o) = .ok (wireInstr o c) := by
  cases c
  case jumpToAddress => simp [framePayload, split32, decodePayloadLayout, wireInstr, join32_byteOf]
  case memoryWrite =>
    have hlen : chunkLengthOk o.data.length = true := by simpa [operandFault] using h
    have hfits : o.data.length % 256 = o.data.length := by simp [chunkLengthOk] at hlen; omega
    simp [framePayload, memoryWritePayload, split32, decodePayloadLayout, wireInstr, join32_byteOf, hlen, hfits]
  case changeReadProtectionLevel =>
    have hlevel : levelOk o.p0 = true := by simpa [operandFault] using h
    simp [framePayload, decodePayloadLayout, wireInstr, hlevel]
  all_goals rfl

/-- A payload that has the layout of a command is the payload of some operands (R55). -/
theorem exists_operands_of_decodePayloadLayout {c : Command} {pl : List Byte} {i : Instr}
    (h : decodePayloadLayout c pl = .ok i) : ∃ o, i = wireInstr o c ∧ pl = framePayload c o := by
  unfold decodePayloadLayout at h
  split at h
  case h_6 a1 a2 a3 a4 =>
    cases h
    exact ⟨{ Operands.zero with a32 := join32 a1 a2 a3 a4 }, rfl, (split32_join32 a1 a2 a3 a4).symm⟩
  case h_7 s k => cases h; exact ⟨{ Operands.zero with p0 := s, p1 := k }, rfl, rfl⟩
  case h_8 v =>
    split at h <;> cases h
    exact ⟨{ Operands.zero with p0 := v }, rfl, rfl⟩
  case h_9 a1 a2 a3 a4 n d =>
    split at h <;> cases h
    rename_i hn
    refine ⟨{ Operands.zero with a32 := join32 a1 a2 a3 a4, data := d }, rfl, ?_⟩
    simp [framePayload, memoryWritePayload, split32_join32, ← hn.1]
  case h_10 => cases h
  all_goals cases h; exact ⟨Operands.zero, rfl, rfl⟩

/-! ### Frames -/

/-- A frame with the opcode of a command is read by that command's layout (R53, R54, R55). -/
theorem decodeFrame_frameBytes {p : Opcodes} {opc : Byte} {c : Command} {pl : List Byte}
    (hc : p.findCommand opc = some c) (h : pl.length ≤ 250) :
    decodeFrame p (frameBytes opc pl) = decodePayloadLayout c pl := by
  have hlen : (pl.length + 5) % 256 = pl.length + 5 := by omega
  simp [decodeFrame, frameBytes, frameBody, hlen, hc]

/-- Bytes that are read as an instruction are the frame of their opcode and payload: that of a command with its layout,
or that of a reserved operation (R53, R54, R55, R57). -/
theorem exists_frameBytes_of_decodeFrame {p : Opcodes} {bs : List Byte} {i : Instr} (h : decodeFrame p bs = .ok i) :
    ∃ opc pl, bs = frameBytes opc pl ∧
      ((∃ c, p.findCommand opc = some c ∧ decodePayloadLayout c pl = .ok i) ∨ ∃ r : ReservedOp, i = r.instr) := by
  unfold decodeFrame at h
  split at h
  case h_2 => cases h
  case h_1 len opc rest =>
    simp only at h
    split_ifs at h with hshort hlen hcrc
    refine ⟨opc, rest.take (rest.length - 4), ?bytes, ?meaning⟩
    case bytes =>
      have hcount : rest.length + 2 = len.toNat + 1 := by simpa using hlen
      have hfirst : len = BitVec.ofNat 8 ((rest.take (rest.length - 4)).length + 5) := by
        rw [List.length_take]
        bv_omega
      rw [frameBytes, frameBody, ← hfirst, ← not_not.1 hcrc]
      simp
    case meaning =>
      cases hc : p.findCommand opc with
      | some c => exact .inl ⟨c, rfl, by simpa [hc] using h⟩
      | none =>
        cases hr : p.findReserved opc with
        | some r => exact .inr ⟨r, by simpa [hc, hr] using h.symm⟩
        | none => simp [hc, hr] at h

/-- The frame of a well-formed wire command reads back as the command (R55, R57). -/
theorem decodeFrame_of_encodeFrame {p : Opcodes} {i : Instr} {fs : List Byte} (hp : p.distinct)
    (hi : i.wellFormed = true) (h : encodeFrame p i = some fs) : decodeFrame p fs = .ok i := by
  obtain ⟨o, c, rfl⟩ := exists_wireInstr_of_encodeFrame h
  have hfault : operandFault c o = none := (wellFormed_wireInstr o c).1 hi
  have hfits : (framePayload c o).length ≤ 250 := (framePayload_length_le c o hfault).trans (by decide)
  obtain rfl : frameBytes (p.ofCommand c) (framePayload c o) = fs := by simpa [encodeFrame_wireInstr] using h
  rw [decodeFrame_frameBytes (findCommand_ofCommand hp c) hfits, decodePayloadLayout_framePayload hfault]

/-! ### Requests and status bytes -/

/-- Every code is one of the thirteen of R67 or reserved. -/
theorem isReservedCode_iff (c : Byte) : isReservedCode c = true ↔ c ∉ requestCodes := by simp [isReservedCode]

/-- The record of a well-formed request reads back as the request (R66, R67). -/
theorem decodeRequest_of_encodeRequest {i : Instr} {q : Request} (hi : i.wellFormed = true)
    (h : encodeRequest i = some q) : decodeRequest q = i := by
  cases i
  case reservedRequest code o => cases h; exact Laws.RequestRoundTrip.decodeRequest_of_reserved code o hi
  all_goals cases h <;> rfl

/-- Every request record is that of the well-formed request it reads as (R67). -/
theorem encodeRequest_decodeRequest (q : Request) :
    (decodeRequest q).wellFormed = true ∧ encodeRequest (decodeRequest q) = some q := by
  obtain ⟨code, o⟩ := q
  by_cases hcode : code ∈ requestCodes
  · simp only [requestCodes, List.mem_cons, List.not_mem_nil, or_false] at hcode
    rcases hcode with rfl | rfl | rfl | rfl | rfl | rfl | rfl | rfl | rfl | rfl | rfl | rfl | rfl <;> exact ⟨rfl, rfl⟩
  · have hreserved := (isReservedCode_iff code).2 hcode
    rw [Laws.RequestRoundTrip.decodeRequest_of_reserved code o hreserved]
    exact ⟨hreserved, rfl⟩

/-- Every status byte is that of the well-formed instruction it reads as (R61). -/
theorem encode_decodeHeader (b : Byte) :
    (decodeHeader b).wellFormed = true ∧ ∀ p : Opcodes, Sys2Proof.encode p (decodeHeader b) = some (.header b) := by
  by_cases hb : b = Config.ackOk
  · simp [decodeHeader, hb, Instr.wellFormed, Sys2Proof.encode]
  · simp [decodeHeader, hb, Instr.wellFormed, Sys2Proof.encode]

/-- An encoding is a status byte, a request record or a frame. -/
theorem encode_cases {p : Opcodes} {i : Instr} {e : Encoded} (h : Sys2Proof.encode p i = some e) :
    (∃ b, e = .header b ∧ (i = .ack ∧ b = Config.ackOk ∨ i = .nack b)) ∨
    (∃ q, e = .request q ∧ encodeRequest i = some q) ∨ (∃ fs, e = .frame fs ∧ encodeFrame p i = some fs) := by
  unfold Sys2Proof.encode at h
  split at h
  case h_1 => cases h; exact .inl ⟨_, rfl, .inl ⟨rfl, rfl⟩⟩
  case h_2 st => cases h; exact .inl ⟨st, rfl, .inr rfl⟩
  case h_3 =>
    cases hq : encodeRequest i with
    | some q => exact .inr (.inl ⟨q, by simpa [hq] using h.symm, rfl⟩)
    | none =>
      obtain ⟨fs, hfs, rfl⟩ := Option.map_eq_some_iff.1 (by simpa [hq] using h)
      exact .inr (.inr ⟨fs, rfl, hfs⟩)

end Sys2Proof.Machine

section
open Sys2Proof Sys2Proof.Machine Sys2Proof.Spec

/-- Settles O15: a status byte, a request record and a frame each read back as what they encode. -/
theorem decodeOfEncodeIsIdentity : Obligations.DecodeOfEncodeIsIdentity := by
  intro p i e hp hi h
  rcases encode_cases h with ⟨b, rfl, hb⟩ | ⟨q, rfl, hq⟩ | ⟨fs, rfl, hfs⟩
  · rcases hb with ⟨rfl, rfl⟩ | rfl
    · rfl
    · have hnot : b ≠ Config.ackOk := by simpa [Instr.wellFormed] using hi
      simp [Sys2Proof.decode, decodeHeader, hnot]
  · exact congrArg Except.ok (decodeRequest_of_encodeRequest hi hq)
  · exact decodeFrame_of_encodeFrame hp hi hfs

/-- Settles O16: bytes that are read as a command are a frame with the command's opcode and a payload of its layout. -/
theorem frameOfACommandIsUnique : Obligations.FrameOfACommandIsUnique := by
  intro p bs fs i hdecode hencode
  obtain ⟨opc, pl, rfl, ⟨c, hc, hlayout⟩ | ⟨r, rfl⟩⟩ := exists_frameBytes_of_decodeFrame hdecode
  · obtain ⟨o, rfl, rfl⟩ := exists_operands_of_decodePayloadLayout hlayout
    rw [encodeFrame_wireInstr, ofCommand_of_findCommand hc] at hencode
    exact Option.some.inj hencode
  · cases r <;> cases hencode

/-- Settles O13: the selectors that name a command are the nine of R57's table. -/
theorem selectorsNameTheCommands : Obligations.SelectorsNameTheCommands := by
  refine ⟨rfl, fun b hb => ?_⟩
  have hout : b.toNat = 0 ∨ 10 ≤ b.toNat := hb.imp_left (congrArg BitVec.toNat)
  unfold Command.ofSelector
  split
  case h_10 => rfl
  all_goals omega

/-- Settles O14, from the round trips of records and of status bytes. -/
theorem requestAndHeaderCodesAreUnambiguous : Obligations.RequestAndHeaderCodesAreUnambiguous :=
  ⟨encodeRequest_decodeRequest, fun _ _ => decodeRequest_of_encodeRequest, encode_decodeHeader⟩

/-- Settles O17: the words are closed, and the CRC of each frame is computed. -/
theorem writtenOutWordsDecode : Obligations.WrittenOutWordsDecode := by
  refine ⟨rfl, rfl, rfl, rfl, rfl, ?version, ?jump, ?erase⟩
  case version => decide +kernel
  case jump => decide +kernel
  case erase => decide +kernel

end

namespace Sys2Proof.Machine
open Sys2Proof Sys2Proof.Spec

/-! ### Requests that end in their acceptance step -/

/-- The states in which no request is in progress (R132, R141). -/
theorem free_iff_busy_eq_false {s : State} : free s ↔ s.fsm.busy = false := busy_eq_false.symm

/-- A request that is accepted and refused leaves the state written out in the statements; SEND_IMAGE and EXECUTE clear
the latch as well (R30, R133, R147). -/
theorem invalidParameter_accept {q : Request} {s : State} (r : Reason) (h : free s) :
    invalidParameter r (accept q s) = { refusedAtOnce q r.code s with
      cancelLatch := if q.code = 0x50#8 ∨ q.code = 0x40#8 then false else s.cancelLatch } := by
  rw [accept_of_free (free_iff_busy_eq_false.1 h)]; rfl

/-- ENCODE of a command whose operands pass the check completes with its frame (R102). -/
theorem execEncode_of_operandFault {o : Operands} {c : Command} {s : State} (h : free s)
    (hc : Command.ofSelector o.cmd = some c) (hfault : operandFault c o = none) :
    execEncode o s =
      .next (complete (some (.bytes (frameBytes (s.opcodes.ofCommand c) (framePayload c o))))
        (buildCommandFrame c o (accept ⟨0x20, o⟩ s))) := by
  rw [execEncode, issue_of_free (free_iff_busy_eq_false.1 h)]
  simp [hc, hfault, buildCommandFrame]

/-! ### Wire commands on their own -/

/-- The operands of the EXECUTE request that a wire command on its own stands for (R68, R71, log entries 8 and 9). -/
def ownOperands (o : Operands) (c : Command) : Operands :=
  match c with
  | .jumpToAddress => { Operands.zero with cmd := c.selector, a32 := o.a32 }
  | .eraseFlash => { Operands.zero with cmd := c.selector, p0 := o.p0, p1 := o.p1 }
  | .changeReadProtectionLevel => { Operands.zero with cmd := c.selector, p0 := o.p0 }
  | .memoryWrite => { memoryWriteOperands o.a32 o.data with cmd := c.selector }
  | .getVersion | .getHelp | .getChipId | .getReadProtectionStatus | .jumpToApplication =>
    { Operands.zero with cmd := c.selector }

theorem ownOperands_cmd (o : Operands) (c : Command) : (ownOperands o c).cmd = c.selector := by cases c <;> rfl

/-- With no request in progress a wire command is the EXECUTE request of its selector (R71, R137). -/
theorem wireCommand_of_free {s : State} (c : Command) (o : Operands) (h : free s) :
    wireCommand c o s = execExecute { o with cmd := c.selector } s := by
  rcases h with h | h <;> simp only [wireCommand, h]

/-- A MemoryWrite of 1 to 128 bytes on its own has the image source deliver its data (log entry 9). -/
theorem execMemoryWrite_of_free {s : State} (a : Word) {d : List Byte} (h : free s)
    (hd : chunkLengthOk d.length = true) :
    execMemoryWrite a d s = wireCommand .memoryWrite (memoryWriteOperands a d) { s with imageSource := d } := by
  simp [execMemoryWrite, free_iff_busy_eq_false.1 h, hd]

/-- A MemoryWrite of another length on its own is refused before the image source moves (R92, log entry 9). -/
theorem execMemoryWrite_of_badLength {s : State} (a : Word) {d : List Byte} (h : free s)
    (hd : chunkLengthOk d.length = false) :
    execMemoryWrite a d s = .next (invalidParameter .badChunkLen
      (accept ⟨0x40, { memoryWriteOperands a d with cmd := Command.memoryWrite.selector }⟩ s)) := by
  have hbusy := free_iff_busy_eq_false.1 h
  simp [execMemoryWrite, hbusy, hd, issue_of_free hbusy]

/-- A wire command on its own is EXECUTE of its own operands (R71, R137). -/
theorem exec_wireInstr_of_free {o : Operands} {c : Command} {s : State} (h : free s)
    (hc : c = .memoryWrite → inRange o c) :
    exec (wireInstr o c) s =
      exec (.execute (ownOperands o c)) (if c = .memoryWrite then { s with imageSource := o.data } else s) := by
  cases c
  case memoryWrite =>
    have hd : chunkLengthOk o.data.length = true := by simpa [chunkLengthOk] using (hc rfl).2 rfl
    exact (execMemoryWrite_of_free o.a32 h hd).trans (wireCommand_of_free _ _ h)
  all_goals exact wireCommand_of_free _ _ h

/-! ### Status bytes -/

/-- The status byte 0xCD is recorded where the block waits for one (R103, T15). -/
theorem readStatus_ackOk {s : State} (hf : s.fsm = .awaitingAck) (hfirst : s.ackStatus = none) :
    readStatus Config.ackOk s = { s with ackStatus := some Config.ackOk } := by
  rw [readStatus, if_pos ⟨hf, hfirst⟩]; exact if_pos rfl

/-- Any other status byte ends the exchange there (R103, T16). -/
theorem readStatus_of_ne {s : State} {st : Byte} (hf : s.fsm = .awaitingAck) (hfirst : s.ackStatus = none)
    (hst : st ≠ Config.ackOk) :
    readStatus st s = raiseInExchange .notAcknowledged (st.setWidth 16) { s with ackStatus := some st } := by
  rw [readStatus, if_pos ⟨hf, hfirst⟩]; exact if_neg hst

/-! ### The response of a request -/

/-- A step that leaves a request in progress delivers nothing; one that does not delivers what the registers hold
(R69, R143). -/
def AnswersAtEnd (s t : State) : Prop :=
  t.responses = s.responses ++ if t.fsm.busy = true then [] else [⟨t.err, t.errInfo, t.result⟩]

/-- A request that is still in progress was not answered. -/
theorem answersAtEnd_of_busy {s t : State} (hbusy : t.fsm.busy = true) (hr : t.responses = s.responses) :
    AnswersAtEnd s t := by
  simp [AnswersAtEnd, hbusy, hr]

/-- The end of a request delivers its response (R147). -/
theorem answersAtEnd_endRequest (e : ErrCode) (info : Half) (r : Option Result) (s : State) :
    AnswersAtEnd s (endRequest e info r s) := by
  cases e <;> rfl

theorem answersAtEnd_xferAbort (e : ErrCode) (info : Half) (s : State) : AnswersAtEnd s (xferAbort e info s) :=
  answersAtEnd_endRequest e info _ { s with xsAllOk := false, xsActive := false, cancelLatch := false }

theorem answersAtEnd_xferEnd (s : State) : AnswersAtEnd s (xferEnd s) :=
  answersAtEnd_endRequest _ 0 _ { s with xsActive := false, cancelLatch := false }

theorem answersAtEnd_raiseInExchange (e : ErrCode) (info : Half) (s : State) :
    AnswersAtEnd s (raiseInExchange e info s) := by
  unfold raiseInExchange
  split
  · exact answersAtEnd_xferAbort e info s
  · exact answersAtEnd_endRequest e info none s

theorem answersAtEnd_deliverPayload (l : Byte) (p : Payload) (s : State) : AnswersAtEnd s (deliverPayload l p s) := by
  rcases deliverPayload_cases l p s with hd | ⟨raw, -, hd⟩ <;> rw [hd] <;> exact answersAtEnd_endRequest _ _ _ s

theorem answersAtEnd_xferNext (s : State) : AnswersAtEnd s (xferNext s) := by
  rcases xferNext_cases s with ⟨-, -, hn⟩ | ⟨-, -, hn⟩ | ⟨-, hn⟩ <;> rw [hn]
  · exact answersAtEnd_xferAbort .cancelled 0 s
  · exact answersAtEnd_of_busy rfl rfl
  · exact answersAtEnd_xferEnd s

/-- The end of an exchange ends the request, or a chunk of the transfer, which goes on (T21, T22). -/
theorem answersAtEnd_payloadComplete {s t : State} (h : payloadComplete s = .next t) : AnswersAtEnd s t := by
  rcases payloadComplete_cases h with ⟨p, -, rfl⟩ | ⟨l, p, rfl⟩
  · exact answersAtEnd_of_busy rfl rfl
  · exact answersAtEnd_deliverPayload l p { s with fsm := .decoded }

/-- Writing a frame byte changes the transmit stream, its index and the sequencer's state, to Transmitting or
AwaitingAck (R135). -/
theorem transmitByte_frame (s : State) : ∃ tx i f, transmitByte s = { s with chanTx := tx, txIdx := i, fsm := f } ∧
    (f = s.fsm ∨ f = .awaitingAck) := by
  cases hb : s.txbuf[s.txIdx.toNat]? with
  | none => exact ⟨s.chanTx, s.txIdx, .awaitingAck, by unfold transmitByte; rw [hb], .inr rfl⟩
  | some b =>
    by_cases hmore : (s.txIdx + 1).toNat < s.txbuf.length
    · exact ⟨_, _, s.fsm, transmitByte_go hb hmore, .inl rfl⟩
    · exact ⟨_, _, .awaitingAck, transmitByte_last hb hmore, .inr rfl⟩

/-- The block's own step while a request is in progress (R143). -/
theorem answersAtEnd_blockTurn {s t : State} (hbusy : s.fsm.busy = true) (h : blockTurn s = .next t) :
    AnswersAtEnd s t := by
  cases blockTurn_cases h with
  | waits hfree => simp [hbusy] at hfree
  | short _ _ _ heq => rw [heq]; exact answersAtEnd_xferAbort _ _ { s with imageSource := [] }
  | chunk _ _ _ heq => rw [heq]; exact answersAtEnd_of_busy rfl rfl
  | writes hf heq =>
    obtain ⟨tx, i, f, hwrite, hnext⟩ := transmitByte_frame s
    rw [heq, hwrite]
    exact answersAtEnd_of_busy (by rcases hnext with rfl | rfl; exacts [hbusy, rfl]) rfl
  | raises _ ds n a e info _ _ heq =>
    rw [heq]; exact answersAtEnd_raiseInExchange e info { s with chanRx := ds, drawIdx := n, ackStatus := a }
  | acknowledged _ _ _ _ _ heq => rw [heq]; exact answersAtEnd_of_busy hbusy rfl
  | header _ _ _ _ _ _ heq => rw [heq]; exact answersAtEnd_of_busy rfl rfl
  | payload _ _ _ _ _ heq => rw [heq]; exact answersAtEnd_of_busy hbusy rfl
  | decodes _ _ _ _ _ _ _ heq => exact (answersAtEnd_payloadComplete heq :)
  | paces _ heq => rw [heq]; exact answersAtEnd_xferNext s

/-! ### What no step changes -/

/-- Distinct numbers below 256 have distinct images under the permutation of the byte space (R57, log entry 2). -/
theorem config_opcodes_distinct : Config.opcodes.distinct := by
  have himages : Config.opcodes.toList =
      ([1, 2, 3, 4, 5, 6, 7, 8, 9, 10, 11, 12, 13] : List Byte).map Config.opcodePermutation := rfl
  rw [Opcodes.distinct, himages]
  exact List.Nodup.map Config.opcodePermutation.injective (by decide)

/-- What stands around the registers, but for the responses. -/
def State.surroundings (s : State) : Env := { s.toEnv with responses := [] }

/-- Surroundings that agree hold the same opcode parameters. -/
theorem opcodes_of_surroundings {s t : State} (h : t.surroundings = s.surroundings) : t.opcodes = s.opcodes :=
  (congrArg Env.opcodes h :)

/-- A next state of the outcome has the surroundings of `s`. -/
def KeepsSurroundings (s : State) (o : Out) : Prop := ∀ t, o = .next t → t.surroundings = s.surroundings

theorem keepsSurroundings_next {s t : State} (h : t.surroundings = s.surroundings) : KeepsSurroundings s (.next t) := by
  rintro _ ⟨rfl⟩; exact h

theorem accept_surroundings (q : Request) (s : State) : (accept q s).surroundings = s.surroundings := by
  unfold accept; split <;> rfl

theorem raiseInExchange_surroundings (e : ErrCode) (info : Half) (s : State) :
    (raiseInExchange e info s).surroundings = s.surroundings := by
  unfold raiseInExchange; split <;> rfl

theorem xferNext_surroundings (s : State) : (xferNext s).surroundings = s.surroundings := by
  rcases xferNext_cases s with ⟨-, -, hn⟩ | ⟨-, -, hn⟩ | ⟨-, hn⟩ <;> rw [hn] <;> rfl

theorem sendImage_surroundings (b0 : Word) (l : DWord) (s : State) :
    (sendImage b0 l s).surroundings = s.surroundings := by
  unfold sendImage
  split
  · exact xferNext_surroundings _
  · rfl

theorem keepsSurroundings_payloadComplete (s : State) : KeepsSurroundings s (payloadComplete s) := by
  intro t h
  rcases payloadComplete_cases h with ⟨p, -, rfl⟩ | ⟨l, p, rfl⟩
  · rfl
  · rcases deliverPayload_cases l p { s with fsm := .decoded } with hd | ⟨_, -, hd⟩ <;> rw [hd] <;> rfl

/-- Issuing a request changes the surroundings only if its rule does. -/
theorem keepsSurroundings_issue {q : Request} {rule : State → Out} {s : State}
    (hrule : ∀ t, KeepsSurroundings t (rule t)) : KeepsSurroundings s (issue q rule s) := by
  cases hf : s.fsm.busy
  · rw [issue_of_free hf]; exact fun t ht => (hrule _ t ht).trans (accept_surroundings q s)
  · rw [issue_of_busy hf]; exact keepsSurroundings_next rfl

/-- A request changes registers and responses only in the step that takes it (R134): EXECUTE and SEND_IMAGE may start a
transfer, CANCEL and STATUS answer at once, and the other rules are updates of registers. -/
theorem keepsSurroundings_request (q : Request) (s : State) : KeepsSurroundings s (exec (decodeRequest q) s) := by
  unfold decodeRequest
  split <;> simp only [exec, execCrcInit, execCrcUpdate, execCrcRead, execCrcBlock, execCodecSplit32, execCodecJoin32,
    execCodecJoin16, execEncode, execDecode, execExecute, execSendImage, execReservedRequest]
  case h_10 =>
    refine keepsSurroundings_issue fun t => ?_
    split
    case h_2 => exact keepsSurroundings_next (sendImage_surroundings _ _ t)
    all_goals (repeat' split) <;> exact keepsSurroundings_next rfl
  case h_11 => exact keepsSurroundings_issue fun t => keepsSurroundings_next (sendImage_surroundings _ _ t)
  case h_12 | h_13 => exact keepsSurroundings_next rfl
  all_goals
    refine keepsSurroundings_issue fun t => ?_
    (repeat' split) <;> exact keepsSurroundings_next rfl

/-- The block's own step leaves the opcode parameters. -/
theorem blockTurn_opcodes {s t : State} (h : blockTurn s = .next t) : t.opcodes = s.opcodes := by
  cases blockTurn_cases h with
  | writes _ heq =>
    obtain ⟨tx, i, f, hwrite, -⟩ := transmitByte_frame s
    rw [heq, hwrite]
  | raises _ _ _ _ e info _ _ heq => rw [heq, opcodes_of_surroundings (raiseInExchange_surroundings e info _)]
  | decodes _ _ _ _ _ _ _ heq => rw [opcodes_of_surroundings (keepsSurroundings_payloadComplete _ t heq)]
  | paces _ heq => rw [heq, opcodes_of_surroundings (xferNext_surroundings s)]
  | waits _ heq | short _ _ _ heq | chunk _ _ _ heq | acknowledged _ _ _ _ _ heq | header _ _ _ _ _ _ heq
  | payload _ _ _ _ _ heq => subst heq; rfl

/-- An input that is taken leaves the opcode parameters, a reset among them (R163). -/
theorem takeInput_opcodes {x : Input} {s t : State} (h : takeInput x s = .next t) : t.opcodes = s.opcodes := by
  cases x with
  | request q => exact opcodes_of_surroundings (keepsSurroundings_request q s t h)
  | pass => exact blockTurn_opcodes h
  | reset | arrive ds | resetInputBuffer | positionImage bs | hostWrite bs => cases h; rfl

end Sys2Proof.Machine

section
open Sys2Proof Sys2Proof.Machine Sys2Proof.Spec

/-- Settles O53: a busy block answers exactly when its step ends the request, and one that is not busy waits. -/
theorem requestEndsWithOneResponse : Obligations.RequestEndsWithOneResponse := by
  intro s t hnil h
  rw [step_of_nil hnil] at h
  cases hbusy : s.fsm.busy
  · have hwaits : blockTurn s = .next s := by
      rcases busy_eq_false.1 hbusy with hf | hf <;> simp only [blockTurn, hf]
    cases hwaits.symm.trans h
    simp
  · have hanswer := answersAtEnd_blockTurn hbusy h
    rw [AnswersAtEnd] at hanswer
    cases ht : t.fsm.busy <;> simpa [ht] using hanswer

/-- Settles O19: ENCODE completes with the frame of R55 as the encoder builds it. -/
theorem encodeReturnsTheFrame : Obligations.EncodeReturnsTheFrame := by
  intro o s c hfree hc hrange
  have hfault : operandFault c o = none := (operandFault_eq_none_iff c o).2 hrange
  rw [frame_eq_frameBytes, layout_eq_frameBody]
  refine (execEncode_of_operandFault hfree hc hfault).trans ?_
  rw [accept_of_free (free_iff_busy_eq_false.1 hfree)]
  rfl

/-- Settles O22: the EXECUTE request is that of the command's own operands. -/
theorem commandOnItsOwnIsExecute : Obligations.CommandOnItsOwnIsExecute := by
  intro o c s hfree
  refine ⟨fun hc => ⟨ownOperands o c, ownOperands_cmd o c, exec_wireInstr_of_free hfree hc, ?address, ?erase, ?level,
    ?chunk, ?pseudo⟩, ?refused⟩
  case address => rintro rfl; rfl
  case erase => rintro rfl; exact ⟨rfl, rfl⟩
  case level => rintro rfl; rfl
  case chunk =>
    rintro rfl
    have hfits : o.data.length ≤ 128 := ((hc rfl).2 rfl).2
    exact ⟨rfl, Nat.mod_eq_of_lt (by omega)⟩
  case pseudo =>
    intro q hq
    cases c <;> cases hq <;> rfl
  case refused =>
    rintro rfl hlen
    have hd : chunkLengthOk o.data.length = false := by simp [chunkLengthOk]; omega
    refine (execMemoryWrite_of_badLength o.a32 hfree hd).trans ?_
    rw [invalidParameter_accept .badChunkLen hfree]
    rfl

/-- Settles O23: each of the four is refused by one rule. -/
theorem reservedOperationsAreRefused : Obligations.ReservedOperationsAreRefused := by
  intro s hfree i hi
  have hrefuse : exec i s = refuseReservedOp s := by
    simp only [List.mem_cons, List.not_mem_nil, or_false] at hi
    rcases hi with rfl | rfl | rfl | rfl <;> rfl
  simp only [hrefuse, refuseReservedOp, free_iff_busy_eq_false.1 hfree]
  rfl

/-- Settles O24: what a status byte does where the block waits for one. -/
theorem statusByteAcknowledgesOrEnds : Obligations.StatusByteAcknowledgesOrEnds := by
  intro st s hf hfirst
  refine ⟨congrArg _ (readStatus_ackOk hf hfirst), fun hst ha => ?single, fun hst ha => ?transfer⟩
  case single =>
    refine congrArg _ ((readStatus_of_ne hf hfirst hst).trans ?_)
    rw [raiseInExchange, ha]; rfl
  case transfer =>
    refine congrArg _ ((readStatus_of_ne hf hfirst hst).trans ?_)
    rw [raiseInExchange, ha]; rfl

/-- Settles O35: a code outside R67's list is reserved, and neither SEND_IMAGE's nor EXECUTE's. -/
theorem reservedCodeIsRefused : Obligations.ReservedCodeIsRefused := by
  intro code o s hfree hcode
  refine ⟨Laws.RequestRoundTrip.decodeRequest_of_reserved code o ((isReservedCode_iff code).2 hcode), ?_⟩
  have hkeeps : ¬(code = 0x50#8 ∨ code = 0x40#8) := by
    rintro (rfl | rfl) <;> exact hcode (by decide)
  show execReservedRequest code o s = _
  rw [execReservedRequest, issue_of_free (free_iff_busy_eq_false.1 hfree), invalidParameter_accept .badCode hfree,
    if_neg hkeeps]
  rfl

/-- Settles O54: the parameters are images under a permutation, and neither an input nor the block writes them. -/
theorem opcodesAreDistinctAndNeverChange : Obligations.OpcodesAreDistinctAndNeverChange := by
  refine ⟨config_opcodes_distinct, fun s t h => ?_⟩
  rcases step_cases s with ⟨x, rest, -, -, hstep⟩ | hstep <;> rw [hstep] at h
  · exact (takeInput_opcodes h :)
  · exact blockTurn_opcodes h

end

namespace Sys2Proof.Machine
open Sys2Proof Sys2Proof.Spec

/-! ### The CRC step -/

theorem crcShift_of_set {a : Word} (h : a.getLsbD 31 = true) : crcShift a = (a <<< 1) ^^^ Config.crcPoly := if_pos h

theorem crcShift_of_clear {a : Word} (h : a.getLsbD 31 = false) : crcShift a = a <<< 1 :=
  if_neg (Bool.eq_false_iff.1 h)

/-- The loop of R72 is `n` times the shift. -/
theorem crcShifts_eq_iterate (n : Nat) (a : Word) : crcShifts n a = crcShift^[n] a := by
  induction n generalizing a with
  | zero => rfl
  | succ n ih => exact ih (crcShift a)

theorem crcStep_eq_iterate (acc : Word) (b : Byte) : crcStep acc b = crcShift^[32] (acc ^^^ b.setWidth 32) :=
  crcShifts_eq_iterate 32 _

/-- One shift is linear: where bit 31 is set in both operands, the two polynomials cancel (R75). -/
theorem crcShift_xor (a b : Word) : crcShift (a ^^^ b) = crcShift a ^^^ crcShift b := by
  have hbit : (a ^^^ b).getLsbD 31 = (a.getLsbD 31 ^^ b.getLsbD 31) := BitVec.getLsbD_xor
  have hshift : (a ^^^ b) <<< 1 = a <<< 1 ^^^ b <<< 1 := BitVec.shiftLeft_xor_distrib ..
  cases ha : a.getLsbD 31 <;> cases hb : b.getLsbD 31 <;> rw [ha, hb] at hbit
  case false.false =>
    rw [crcShift_of_clear hbit, crcShift_of_clear ha, crcShift_of_clear hb, hshift]
  case false.true =>
    rw [crcShift_of_set hbit, crcShift_of_clear ha, crcShift_of_set hb, hshift, BitVec.xor_assoc]
  case true.false =>
    rw [crcShift_of_set hbit, crcShift_of_set ha, crcShift_of_clear hb, hshift]; ac_rfl
  case true.true =>
    have hcancel (x y p : Word) : (x ^^^ p) ^^^ (y ^^^ p) = x ^^^ y := by
      calc (x ^^^ p) ^^^ (y ^^^ p) = x ^^^ y ^^^ (p ^^^ p) := by ac_rfl
        _ = x ^^^ y := by rw [BitVec.xor_self, BitVec.xor_zero]
    rw [crcShift_of_clear hbit, crcShift_of_set ha, crcShift_of_set hb, hshift, hcancel]

theorem iterate_crcShift_xor (n : Nat) (a b : Word) : crcShift^[n] (a ^^^ b) = crcShift^[n] a ^^^ crcShift^[n] b :=
  Function.Semiconj₂.iterate crcShift_xor n a b

/-- Up to 24 shifts move a byte up the word and bring no bit of it to bit 31 (R75). -/
theorem iterate_crcShift_byte (b : Byte) {n : Nat} (hn : n ≤ 24) :
    crcShift^[n] (b.setWidth 32) = b.setWidth 32 <<< n := by
  induction n with
  | zero => simp
  | succ n ih =>
    have hclear : (b.setWidth 32 <<< n).getLsbD 31 = false := by
      have habove : b.getLsbD (31 - n) = false := BitVec.getLsbD_of_ge b _ (by omega)
      simp [habove]
    rw [Function.iterate_succ_apply', ih (by omega), crcShift_of_clear hclear, BitVec.shiftLeft_add]

/-- The low 32 bits of an unmasked shift are the shift of the low 32 bits (R73). -/
theorem ofNat_wideShift (a : Nat) : BitVec.ofNat 32 (wideShift a) = crcShift (BitVec.ofNat 32 a) := by
  have hbit : (BitVec.ofNat 32 a).getLsbD 31 = a.testBit 31 := BitVec.getLsbD_ofNat ..
  have hdouble : BitVec.ofNat 32 (2 * a) = BitVec.ofNat 32 a <<< 1 := by
    apply BitVec.eq_of_toNat_eq; simp [Nat.shiftLeft_eq, Nat.mul_comm]
  cases h : a.testBit 31 <;> rw [h] at hbit
  case false => rw [crcShift_of_clear hbit, wideShift, h, if_neg Bool.false_ne_true, hdouble]
  case true => rw [crcShift_of_set hbit, wideShift, h, if_pos rfl, BitVec.ofNat_xor, hdouble]; rfl

/-- The conventional step shifts as R72 does, eight times, with the byte on top (R75). -/
theorem msbFirstStep_eq_iterate (acc : Word) (b : Byte) :
    msbFirstStep acc b = crcShift^[8] (acc ^^^ b.setWidth 32 <<< 24) := by
  have hshift : crcShift = fun a : Word => if a.msb then (a <<< 1) ^^^ 0x04C11DB7#32 else a <<< 1 := by
    funext a; rw [crcShift, BitVec.msb_eq_getLsbD_last]; rfl
  rw [hshift, msbFirstStep]

/-- Three zero bytes and the byte itself make one step of R72: the zeros shift the accumulator 24 times, and 24 of the
32 shifts of R72 bring the byte to bits 31:24 (R75). -/
theorem crcStep_eq_foldl_msbFirstStep (acc : Word) (b : Byte) :
    crcStep acc b = [0, 0, 0, b].foldl msbFirstStep acc := by
  have hmix : crcShift^[24] (acc ^^^ b.setWidth 32) = crcShift^[24] acc ^^^ b.setWidth 32 <<< 24 := by
    rw [iterate_crcShift_xor, iterate_crcShift_byte b le_rfl]
  have hzero (a : Word) : msbFirstStep a 0 = crcShift^[8] a :=
    (msbFirstStep_eq_iterate a 0).trans (congrArg crcShift^[8] BitVec.xor_zero)
  calc crcStep acc b
      = crcShift^[8] (crcShift^[24] (acc ^^^ b.setWidth 32)) := by
        rw [crcStep_eq_iterate, ← Function.iterate_add_apply]
    _ = crcShift^[8] (crcShift^[24] acc ^^^ b.setWidth 32 <<< 24) := by rw [hmix]
    _ = [0, 0, 0, b].foldl msbFirstStep acc := by
        simp only [List.foldl_cons, List.foldl_nil, hzero, msbFirstStep_eq_iterate _ b,
          ← Function.iterate_add_apply]

/-! ### Requests of the CRC Engine -/

/-- A request that is accepted and completes leaves the state written out in the statements (R20, R133, R147). -/
theorem complete_accept {code : Byte} (hcode : ¬(code = 0x50#8 ∨ code = 0x40#8)) (o : Operands) {s : State}
    (h : free s) (r : Option Result) (crc : Word) :
    complete r { accept ⟨code, o⟩ s with crcAcc := crc } = doneAtOnce ⟨code, o⟩ r crc s := by
  rw [accept_of_free (free_iff_busy_eq_false.1 h), if_neg hcode]; rfl

theorem execCrcInit_of_free (o : Operands) {s : State} (h : free s) :
    execCrcInit o s = .next (doneAtOnce ⟨0x01, o⟩ none Config.crcInit s) := by
  rw [execCrcInit, issue_of_free (free_iff_busy_eq_false.1 h), complete_accept (by decide) o h]

theorem execCrcUpdate_of_free (o : Operands) {s : State} (h : free s) :
    execCrcUpdate o s = .next (doneAtOnce ⟨0x02, o⟩ none (crcStep s.crcAcc o.p0) s) := by
  rw [execCrcUpdate, issue_of_free (free_iff_busy_eq_false.1 h), complete_accept (by decide) o h, accept_crcAcc]

theorem execCrcRead_of_free (o : Operands) {s : State} (h : free s) :
    execCrcRead o s = .next (doneAtOnce ⟨0x03, o⟩ (some (.word s.crcAcc)) s.crcAcc s) := by
  have hcrc : accept ⟨0x03, o⟩ s = { accept ⟨0x03, o⟩ s with crcAcc := s.crcAcc } := by
    rw [← accept_crcAcc ⟨0x03, o⟩ s]
  rw [execCrcRead, issue_of_free (free_iff_busy_eq_false.1 h), accept_crcAcc, hcrc, complete_accept (by decide) o h]

theorem execCrcBlock_of_free (o : Operands) {s : State} (h : free s) :
    execCrcBlock o s = .next (doneAtOnce ⟨0x04, o⟩ (some (.word (crc32 o.data))) (crc32 o.data) s) := by
  rw [execCrcBlock, issue_of_free (free_iff_busy_eq_false.1 h), complete_accept (by decide) o h]

/-- A free block takes the request at the head of its inputs (R133, R134). -/
theorem step_of_request {s : State} {q : Request} {rest : List Input} (h : free s)
    (hin : s.inbox = .request q :: rest) : step s = exec (decodeRequest q) { s with inbox := rest } :=
  step_of_enabled hin (by simp [Input.enabled, free_iff_busy_eq_false.1 h])

/-- CRC.UPDATE of each byte, one step each, folds the CRC step over the bytes (R78). -/
theorem run_crcUpdates (o : Operands) (data : List Byte) (rest : List Input) (n : Nat) {s : State} (h : free s)
    (hin : s.inbox = (data.map fun b => .request ⟨0x02, { o with p0 := b }⟩) ++ rest) :
    ∃ t, core.run (data.length + n) s = core.run n t ∧ free t ∧ t.crcAcc = data.foldl crcStep s.crcAcc ∧
      t.inbox = rest := by
  induction data generalizing s with
  | nil => exact ⟨s, by rw [List.length_nil, Nat.zero_add], h, rfl, hin⟩
  | cons b data ih =>
    have hstep := (step_of_request h hin).trans (execCrcUpdate_of_free { o with p0 := b } h)
    obtain ⟨t, hrun, ht⟩ := ih (s := doneAtOnce ⟨0x02, { o with p0 := b }⟩ none (crcStep s.crcAcc b)
      { s with inbox := (data.map fun b => .request ⟨0x02, { o with p0 := b }⟩) ++ rest }) (.inl rfl) rfl
    refine ⟨t, ?_, ht⟩
    rw [List.length_cons, Nat.add_right_comm]
    exact (run_succ_of_next (M := core) _ hstep).trans hrun

/-- CRC.INIT, CRC.UPDATE of each byte and CRC.READ, one step each, return `crc32` of the bytes (R80). -/
theorem run_crcInit_updates_read (o : Operands) {s : State} (h : free s)
    (hin : s.inbox = .request ⟨0x01, o⟩ ::
      (o.data.map fun b => .request ⟨0x02, { o with p0 := b }⟩) ++ [.request ⟨0x03, o⟩]) :
    ∃ t, core.run (o.data.length + 2) s = .next t ∧ t.crcAcc = crc32 o.data ∧
      t.result = some (.word (crc32 o.data)) ∧ t.inbox = [] := by
  have hinit := (step_of_request h hin).trans (execCrcInit_of_free o h)
  obtain ⟨u, hupdates, hufree, hacc, huin⟩ := run_crcUpdates o o.data [.request ⟨0x03, o⟩] 1
    (s := doneAtOnce ⟨0x01, o⟩ none Config.crcInit { s with
      inbox := (o.data.map fun b => .request ⟨0x02, { o with p0 := b }⟩) ++ [.request ⟨0x03, o⟩] }) (.inl rfl) rfl
  have hread := (step_of_request hufree huin).trans (execCrcRead_of_free o hufree)
  refine ⟨doneAtOnce ⟨0x03, o⟩ (some (.word u.crcAcc)) u.crcAcc { u with inbox := [] }, ?run, hacc,
    congrArg (some ∘ Result.word) hacc, rfl⟩
  case run =>
    calc core.run (o.data.length + 2) s
        = core.run (o.data.length + 1) _ := run_succ_of_next (M := core) _ hinit
      _ = core.run 1 u := hupdates
      _ = .next _ := run_succ_of_next (M := core) 0 hread

end Sys2Proof.Machine

section
open Sys2Proof Sys2Proof.Machine Sys2Proof.Spec

/-- Settles O2: 32 shifts, each linear, of the accumulator XOR the byte. -/
theorem crcStepIsLinear : Obligations.CrcStepIsLinear := by
  intro a1 a2 b1 b2
  have hmix : a1 ^^^ a2 ^^^ (b1 ^^^ b2).setWidth 32 = (a1 ^^^ b1.setWidth 32) ^^^ (a2 ^^^ b2.setWidth 32) := by
    rw [BitVec.setWidth_xor]; ac_rfl
  simp only [crcStep_eq_iterate, hmix, iterate_crcShift_xor]

/-- Settles O3: taking the low 32 bits commutes with every iteration. -/
theorem crcStepOnWideAccumulator : Obligations.CrcStepOnWideAccumulator := by
  intro acc b
  have hbyte : b.setWidth 32 = BitVec.ofNat 32 b.toNat := (BitVec.ofNat_toNat ..).symm
  rw [crcStep_eq_iterate, hbyte, ← BitVec.ofNat_xor]
  exact (Function.Semiconj.iterate_right ofNat_wideShift 32 _).symm

/-- Settles O4: one step of R72 for each group of four conventional steps. -/
theorem crc32IsMsbFirstCrcOfExpandedBytes : Obligations.Crc32IsMsbFirstCrcOfExpandedBytes := by
  intro s
  rw [List.foldl_flatMap]
  simp only [← crcStep_eq_foldl_msbFirstStep]
  rfl

/-- Settles O8: the UPDATEs fold the step from the value of CRC.INIT, and READ returns it. -/
theorem crcBlockIsInitUpdatesRead : Obligations.CrcBlockIsInitUpdatesRead := fun o s hfree =>
  ⟨execCrcBlock_of_free o hfree, run_crcInit_updates_read o (s := { s with inbox := _ }) hfree rfl⟩

/-- Settles O1: the loop is the shift iterated, and the function a fold. -/
theorem crcStepAndFunctionAreAsDefined : Obligations.CrcStepAndFunctionAreAsDefined :=
  ⟨crcStep_eq_iterate, rfl, fun _ _ => List.foldl_concat ..⟩

/-- Settles O5: CRC.INIT in a free state. -/
theorem crcInitSetsAccumulator : Obligations.CrcInitSetsAccumulator := fun o _ h => execCrcInit_of_free o h

/-- Settles O6: CRC.UPDATE in a free state. -/
theorem crcUpdateMixesOneByte : Obligations.CrcUpdateMixesOneByte := fun o _ h => execCrcUpdate_of_free o h

/-- Settles O7: CRC.READ in a free state. -/
theorem crcReadReturnsAccumulator : Obligations.CrcReadReturnsAccumulator := fun o _ h => execCrcRead_of_free o h

end

namespace Sys2Proof.Machine
open Sys2Proof Sys2Proof.Spec

/-! ### Requests of the Byte-Order Codec -/

/-- `join16` is concatenation, the second byte on top (R83). -/
theorem join16_eq (b0 b1 : Byte) : join16 b0 b1 = b1 ++ b0 := by
  rw [BitVec.append_def, BitVec.shiftLeftZeroExtend_eq, BitVec.setWidth'_eq]; rfl

/-- The low half of a joined word is the join of its two low bytes (R84). -/
theorem extractLsb'_join32 (b1 b2 b3 b4 : Byte) : (join32 b1 b2 b3 b4).extractLsb' 0 16 = join16 b1 b2 := by
  have hassoc : b4 ++ b3 ++ b2 ++ b1 = b4 ++ b3 ++ (b2 ++ b1) := BitVec.append_assoc ..
  rw [join32_eq, join16_eq, hassoc]
  exact BitVec.extractLsb'_append_eq_right

/-- A request that is accepted and completes with `crc_acc` as it was (R133, R147). -/
theorem complete_accept_keep_crc {code : Byte} (hcode : ¬(code = 0x50#8 ∨ code = 0x40#8)) (o : Operands) {s : State}
    (h : free s) (r : Option Result) : complete r (accept ⟨code, o⟩ s) = doneAtOnce ⟨code, o⟩ r s.crcAcc s := by
  rw [← complete_accept hcode o h, ← accept_crcAcc ⟨code, o⟩ s]

/-- A request with no latch of its own that is accepted and refused (R133, R147). -/
theorem invalidParameter_accept_keep_latch {code : Byte} (hcode : ¬(code = 0x50#8 ∨ code = 0x40#8)) (o : Operands)
    {s : State} (h : free s) (r : Reason) :
    invalidParameter r (accept ⟨code, o⟩ s) = refusedAtOnce ⟨code, o⟩ r.code s := by
  rw [invalidParameter_accept r h, if_neg hcode]; rfl

/-- CODEC.SPLIT32 in a free state (R86). -/
theorem execCodecSplit32_of_free (o : Operands) {s : State} (h : free s) :
    execCodecSplit32 o s = .next (doneAtOnce ⟨0x10, o⟩ (some (.bytes (split32 o.a32))) s.crcAcc s) := by
  rw [execCodecSplit32, issue_of_free (free_iff_busy_eq_false.1 h), complete_accept_keep_crc (by decide) o h]

/-- CODEC.JOIN32 of four bytes in a free state (R87). -/
theorem execCodecJoin32_of_four {o : Operands} {s : State} (h : free s) {b1 b2 b3 b4 : Byte}
    (hd : o.data = [b1, b2, b3, b4]) :
    execCodecJoin32 o s = .next (doneAtOnce ⟨0x11, o⟩ (some (.word (join32 b1 b2 b3 b4))) s.crcAcc s) := by
  rw [execCodecJoin32, issue_of_free (free_iff_busy_eq_false.1 h), hd, ← complete_accept_keep_crc (by decide) o h]

/-- CODEC.JOIN32 of any other number of bytes in a free state (R87). -/
theorem execCodecJoin32_of_length_ne {o : Operands} {s : State} (h : free s) (hd : o.data.length ≠ 4) :
    execCodecJoin32 o s = .next (refusedAtOnce ⟨0x11, o⟩ 5 s) := by
  rw [execCodecJoin32, issue_of_free (free_iff_busy_eq_false.1 h)]
  split
  next b1 b2 b3 b4 hfour => simp [hfour] at hd
  next => exact congrArg _ (invalidParameter_accept_keep_latch (by decide) o h .badDataLen)

/-- CODEC.JOIN16 of two bytes in a free state (R88). -/
theorem execCodecJoin16_of_two {o : Operands} {s : State} (h : free s) {b0 b1 : Byte} (hd : o.data = [b0, b1]) :
    execCodecJoin16 o s = .next (doneAtOnce ⟨0x12, o⟩ (some (.half (join16 b0 b1))) s.crcAcc s) := by
  rw [execCodecJoin16, issue_of_free (free_iff_busy_eq_false.1 h), hd, ← complete_accept_keep_crc (by decide) o h]

/-- CODEC.JOIN16 of any other number of bytes in a free state (R88). -/
theorem execCodecJoin16_of_length_ne {o : Operands} {s : State} (h : free s) (hd : o.data.length ≠ 2) :
    execCodecJoin16 o s = .next (refusedAtOnce ⟨0x12, o⟩ 5 s) := by
  rw [execCodecJoin16, issue_of_free (free_iff_busy_eq_false.1 h)]
  split
  next b0 b1 htwo => simp [htwo] at hd
  next => exact congrArg _ (invalidParameter_accept_keep_latch (by decide) o h .badDataLen)

end Sys2Proof.Machine

section
open Sys2Proof Sys2Proof.Machine Sys2Proof.Spec

/-- Settles O9: the bytes of the spec's layout are those of `split32`. -/
theorem split32ReturnsLowByteFirst : Obligations.Split32ReturnsLowByteFirst := by
  intro o s hfree
  rw [le32_eq_split32]
  exact execCodecSplit32_of_free o hfree

/-- Settles O10: four bytes are joined, and a list of any other length is refused. -/
theorem join32NeedsFourBytes : Obligations.Join32NeedsFourBytes := by
  refine fun o s hfree => ⟨fun b1 b2 b3 b4 hd => ?_, execCodecJoin32_of_length_ne hfree⟩
  rw [← join32_eq]
  exact execCodecJoin32_of_four hfree hd

/-- Settles O11: two bytes are joined, and a list of any other length is refused. -/
theorem join16NeedsTwoBytes : Obligations.Join16NeedsTwoBytes := by
  refine fun o s hfree => ⟨fun b0 b1 hd => ?_, execCodecJoin16_of_length_ne hfree⟩
  rw [← join16_eq]
  exact execCodecJoin16_of_two hfree hd

/-- Settles O12, from the round trips of the codec and the low half of a joined word. -/
theorem codecRoundTrip : Obligations.CodecRoundTrip :=
  ⟨fun v => ⟨byteOf v 1, byteOf v 2, byteOf v 3, byteOf v 4, rfl, join32_byteOf v⟩, split32_join32,
    fun b0 b1 => (extractLsb'_join32 b0 b1 0 0).symm⟩

end

namespace Sys2Proof.Machine
open Sys2Proof Sys2Proof.Spec

/-! ### The parts of a frame -/

/-- The CRC trailer is the last four bytes of a frame, the body the rest (R53, R89). -/
theorem frameBytes_length_sub_four (opc : Byte) (pl : List Byte) :
    (frameBytes opc pl).length - 4 = (frameBody opc pl).length := by
  rw [frameBytes_length, frameBody_length]; omega

theorem take_frameBytes (opc : Byte) (pl : List Byte) :
    (frameBytes opc pl).take (frameBody opc pl).length = frameBody opc pl := List.take_left

theorem drop_frameBytes (opc : Byte) (pl : List Byte) :
    (frameBytes opc pl).drop (frameBody opc pl).length = split32 (crc32 (frameBody opc pl)) := List.drop_left

/-! ### ENCODE and EXECUTE of operands that fail a check -/

theorem operandFault_of_badLevel {o : Operands} (h0 : o.p0 ≠ 0) (h1 : o.p0 ≠ 1) :
    operandFault .changeReadProtectionLevel o = some .badLevel := by
  simpa [operandFault, levelOk] using And.intro h0 h1

theorem operandFault_of_badLength {o : Operands} (h : o.data.length = 0 ∨ 128 < o.data.length) :
    operandFault .memoryWrite o = some .badChunkLen := by
  have hd : chunkLengthOk o.data.length = false := by simp [chunkLengthOk]; omega
  simp [operandFault, hd]

/-- An EXECUTE that is accepted and refused has cleared the latch (R30, R133, R147). -/
theorem invalidParameter_accept_execute (o : Operands) {s : State} (h : free s) (r : Reason) :
    invalidParameter r (accept ⟨0x40, o⟩ s) = { refusedAtOnce ⟨0x40, o⟩ r.code s with cancelLatch := false } :=
  invalidParameter_accept r h

theorem execEncode_of_badSelector {o : Operands} {s : State} (h : free s) (hc : Command.ofSelector o.cmd = none) :
    execEncode o s = .next (refusedAtOnce ⟨0x20, o⟩ 2 s) := by
  rw [execEncode, issue_of_free (free_iff_busy_eq_false.1 h), hc]
  exact congrArg Host.Outcome.next (invalidParameter_accept_keep_latch (by decide) o h .badSelector)

theorem execEncode_of_badOperands {o : Operands} {c : Command} {r : Reason} {s : State} (h : free s)
    (hc : Command.ofSelector o.cmd = some c) (hfault : operandFault c o = some r) :
    execEncode o s = .next (refusedAtOnce ⟨0x20, o⟩ r.code s) := by
  rw [execEncode, issue_of_free (free_iff_busy_eq_false.1 h), hc, ← invalidParameter_accept_keep_latch (by decide) o h]
  simp only [hfault]

theorem execExecute_of_badSelector {o : Operands} {s : State} (h : free s) (hc : Command.ofSelector o.cmd = none) :
    execExecute o s = .next { refusedAtOnce ⟨0x40, o⟩ 2 s with cancelLatch := false } := by
  rw [execExecute, issue_of_free (free_iff_busy_eq_false.1 h), hc]
  exact congrArg Host.Outcome.next (invalidParameter_accept_execute o h .badSelector)

/-- The level is the one operand that EXECUTE checks before it encodes: MemoryWrite there is SEND_IMAGE (R137). -/
theorem execExecute_of_badLevel {o : Operands} {s : State} (h : free s)
    (hc : Command.ofSelector o.cmd = some .changeReadProtectionLevel) (h0 : o.p0 ≠ 0) (h1 : o.p0 ≠ 1) :
    execExecute o s = .next { refusedAtOnce ⟨0x40, o⟩ 3 s with cancelLatch := false } := by
  rw [execExecute, issue_of_free (free_iff_busy_eq_false.1 h), hc]
  simp only [operandFault_of_badLevel h0 h1]
  exact congrArg Host.Outcome.next (invalidParameter_accept_execute o h .badLevel)

/-! ### Wire commands in Encoding -/

/-- Operands in range are encoded as the frame of R55 (R89, R93 to R101). -/
theorem encodeCommand_of_inRange {c : Command} {o : Operands} (s : State) (h : inRange o c) :
    encodeCommand c o s =
      { s with crcAcc := crc32 (layout s.opcodes o c), txbuf := frame s.opcodes o c, txIdx := 0 } := by
  rw [encodeCommand, (operandFault_eq_none_iff c o).2 h, layout_eq_frameBody, frame_eq_frameBytes]
  exact buildFrame_eq ..

/-- Other operands end the request with no frame (R91, R147). -/
theorem encodeCommand_of_operandFault {c : Command} {o : Operands} {r : Reason} (s : State)
    (h : operandFault c o = some r) : encodeCommand c o s = ended .invalidParameter r.code none .idle s := by
  rw [encodeCommand, h]; rfl

theorem wireCommand_of_encoding {s : State} (c : Command) (o : Operands) (hf : s.fsm = .encoding) :
    wireCommand c o s = .next (encodeCommand c o s) := by
  simp only [wireCommand, hf]

/-- A MemoryWrite in Encoding is left to its encoder, whatever its length (log entry 8). -/
theorem execMemoryWrite_of_encoding {s : State} (a : Word) (d : List Byte) (hf : s.fsm = .encoding) :
    execMemoryWrite a d s = wireCommand .memoryWrite (memoryWriteOperands a d) s := by
  simp [execMemoryWrite, hf, Fsm.busy]

/-- In Encoding a wire command is its encoder, on the operands it reads (log entry 8). -/
theorem exec_wireInstr_of_encoding {s : State} (o : Operands) (c : Command) (hf : s.fsm = .encoding) :
    exec (wireInstr o c) s = .next (encodeCommand c o s) := by
  cases c
  case memoryWrite => exact (execMemoryWrite_of_encoding o.a32 o.data hf).trans (wireCommand_of_encoding _ _ hf)
  all_goals exact wireCommand_of_encoding _ _ hf

end Sys2Proof.Machine

section
open Sys2Proof Sys2Proof.Machine Sys2Proof.Spec

/-- Settles O18: a frame is its body and the CRC of its body, and the length byte does not wrap up to 133 bytes. -/
theorem builtFrameObeysLengthAndCrcLaws : Obligations.BuiltFrameObeysLengthAndCrcLaws := by
  intro opc pl s hlen
  simp only [buildFrame_txbuf]
  refine ⟨⟨BitVec.ofNat 8 (pl.length + 5), rfl, ?length⟩, ?crc⟩
  case length =>
    have hfits : (BitVec.ofNat 8 (pl.length + 5)).toNat = pl.length + 5 := Nat.mod_eq_of_lt (by omega)
    rw [hfits, frameBytes_length]
  case crc => rw [frameBytes_length_sub_four, take_frameBytes, drop_frameBytes, le32_eq_split32]

/-- Settles O20: each check that fails ends the request in its acceptance step. -/
theorem badOperandsAreRefused : Obligations.BadOperandsAreRefused := by
  intro o s hfree
  refine ⟨fun hc => ⟨execEncode_of_badSelector hfree hc, execExecute_of_badSelector hfree hc⟩,
    fun hcmd h0 h1 => ?level, fun hcmd hlen => ?chunk⟩
  case level =>
    have hc : Command.ofSelector o.cmd = some .changeReadProtectionLevel := by rw [hcmd]; rfl
    exact ⟨execEncode_of_badOperands hfree hc (operandFault_of_badLevel h0 h1),
      execExecute_of_badLevel hfree hc h0 h1⟩
  case chunk =>
    have hc : Command.ofSelector o.cmd = some .memoryWrite := by rw [hcmd]; rfl
    exact execEncode_of_badOperands hfree hc (operandFault_of_badLength hlen)

/-- Settles O21: in Encoding each command is its encoder, which builds the frame or refuses the operands. -/
theorem wireCommandsBuildTheirFrames : Obligations.WireCommandsBuildTheirFrames := by
  intro s hf
  refine ⟨fun o c hrange => ?frame, fun a d hlen => ?chunk, fun v h0 h1 => ?level⟩
  case frame => rw [exec_wireInstr_of_encoding o c hf, encodeCommand_of_inRange s hrange]
  case chunk =>
    have hfault := operandFault_of_badLength (o := { Operands.zero with a32 := a, data := d }) hlen
    exact (exec_wireInstr_of_encoding _ .memoryWrite hf).trans (congrArg _ (encodeCommand_of_operandFault s hfault))
  case level =>
    have hfault := operandFault_of_badLevel (o := { Operands.zero with p0 := v }) h0 h1
    exact (exec_wireInstr_of_encoding _ .changeReadProtectionLevel hf).trans
      (congrArg _ (encodeCommand_of_operandFault s hfault))

end

namespace Sys2Proof.Machine
open Sys2Proof Sys2Proof.Spec

/-! ### Runs -/

/-- A run that comes to a state goes on from there. -/
theorem run_add_of_next {M : Host.Core} {s t : M.State} (m n : Nat) (h : M.run m s = .next t) :
    M.run (m + n) s = M.run n t := by
  induction m generalizing s with
  | zero => cases h; rw [Nat.zero_add]
  | succ m ih =>
    cases hstep : M.step s with
    | next u =>
      rw [Nat.add_right_comm, run_succ_of_next _ hstep]
      exact ih ((run_succ_of_next m hstep).symm.trans h)
    | fault r => simp [Host.Core.run, hstep] at h
    | refused r => simp [Host.Core.run, hstep] at h

/-! ### The end of a single exchange -/

/-- A response that was read whole is decoded by its command and delivered (R104, R108, log entry 8). -/
theorem exec_wireInstr_of_responseRead {l : Byte} {p : List Byte} {s : State} (h : responseRead l p s) (o : Operands)
    (c : Command) : exec (wireInstr o c) s = .next (deliverPayload l (decodeResponse s.opcodes c l p) s) := by
  obtain ⟨hf, ha, hl, rfl, -⟩ := h
  rw [exec_wireInstr_of_decoded o c hf, finishCommand_single c ha hl]

/-- Delivering a payload ends the request with it, in Idle (R106, R118, R137). -/
theorem deliverPayload_eq_endRequest (l : Byte) (p : Payload) (s : State) :
    ∃ e info, e.fatal = false ∧ deliverPayload l p s = endRequest e info (some (.payload p)) s := by
  rcases deliverPayload_cases l p s with hd | ⟨raw, -, hd⟩
  · exact ⟨.none, 0, rfl, hd⟩
  · exact ⟨.unknownResponseCode, _, rfl, hd⟩

/-- `err_info` of an unknown response: the length on top, and below it the first byte, 0 if there is none (R144). -/
theorem unknownInfo_eq_append {l : Byte} {p : List Byte} (h : p.length = l.toNat) :
    unknownInfo l p = l ++ p.headD 0 := by
  have hfirst : (if l = 0 then (0 : Half) else (p.headD 0).setWidth 16) = (p.headD 0).setWidth 16 := by
    split
    next hl => rw [List.length_eq_zero_iff.1 (h.trans (congrArg BitVec.toNat hl))]; rfl
    next => rfl
  rw [unknownInfo, hfirst]
  exact join16_eq (p.headD 0) l

/-- An unknown response is reported with its bytes (R105, R106). -/
theorem deliverPayload_unknown {l : Byte} {p : List Byte} {s : State} (hbuf : s.rxbuf = p)
    (hlen : p.length = l.toNat) : deliverPayload l (.unknown p) s = reported l (p.headD 0) s := by
  subst hbuf
  rw [reported, ← unknownInfo_eq_append hlen]; rfl

/-! ### The decoders of R109 to R117 -/

/-- Every decoder but GetHelp's interprets one length only (R105). -/
theorem decodeResponse_of_wrongLength {l : Byte} {c : Command} (ops : Opcodes) (p : List Byte) (hhelp : c ≠ .getHelp)
    (hversion : c = .getVersion → l ≠ 4) (hchip : c = .getChipId → l ≠ 2)
    (hone : c ≠ .getVersion → c ≠ .getChipId → l ≠ 1) : decodeResponse ops c l p = .unknown p := by
  cases c
  case getHelp => exact absurd rfl hhelp
  case getVersion => exact if_pos (hversion rfl)
  case getChipId => exact if_pos (hchip rfl)
  all_goals exact if_pos (hone (by decide) (by decide))

theorem decodeGetReadProtectionStatus_one (b : Byte) : decodeGetReadProtectionStatus 1 [b] =
    if b = 0 ∨ b = 1 ∨ b = 2 then .rdpLevel b else if b = 0xEE then .rdpReadError else .unknown [b] := rfl

theorem decodeJumpToAddress_one (b : Byte) :
    decodeJumpToAddress 1 [b] = if b = 1 then .addressValid else .addressInvalid b := rfl

theorem decodeEraseFlash_one (b : Byte) : decodeEraseFlash 1 [b] =
    if b = 0 then .eraseZero else if b = 1 then .eraseSuccessful else .unknown [b] := rfl

theorem decodeMemoryWrite_one (b : Byte) : decodeMemoryWrite 1 [b] =
    if b = 0 then .writeFailed else if b = 1 then .writeSuccess else .unknown [b] := rfl

theorem decodeChangeReadProtectionLevel_one (b : Byte) : decodeChangeReadProtectionLevel 1 [b] =
    if b = 1 then .levelChanged else if b = 0 then .levelNotChanged else .unknown [b] := rfl

theorem decodeJumpToApplication_one (b : Byte) : decodeJumpToApplication 1 [b] =
    if b = 1 then .jumped else if b = 0 then .noApplication else .unknown [b] := rfl

/-! ### The labels of R110 -/

theorem reservedOp_mem_all (r : ReservedOp) : r ∈ ReservedOp.all := by cases r <;> decide

theorem ofCommand_mem_toList (p : Opcodes) (c : Command) : p.ofCommand c ∈ p.toList := by
  rw [opcodes_toList_eq]
  exact List.mem_append_left _ (List.mem_map_of_mem (command_mem_all c))

theorem ofReserved_mem_toList (p : Opcodes) (r : ReservedOp) : p.ofReserved r ∈ p.toList := by
  rw [opcodes_toList_eq]
  exact List.mem_append_right _ (List.mem_map_of_mem (reservedOp_mem_all r))

/-- Distinct parameters tell the commands from the reserved operations (R57). -/
theorem ofCommand_ne_ofReserved {p : Opcodes} (h : p.distinct) (c : Command) (r : ReservedOp) :
    p.ofCommand c ≠ p.ofReserved r := by
  rw [Opcodes.distinct, opcodes_toList_eq] at h
  exact fun heq => List.disjoint_of_nodup_append h (List.mem_map_of_mem (command_mem_all c))
    (heq ▸ List.mem_map_of_mem (reservedOp_mem_all r))

/-- A byte that is no command's opcode finds no command. -/
theorem findCommand_eq_none {p : Opcodes} {x : Byte} (h : ∀ c, p.ofCommand c ≠ x) : p.findCommand x = none :=
  List.find?_eq_none.2 fun c _ => by simpa using h c

theorem findReserved_eq_none {p : Opcodes} {x : Byte} (h : ∀ r, p.ofReserved r ≠ x) : p.findReserved x = none :=
  List.find?_eq_none.2 fun r _ => by simpa using h r

theorem labelOf_ofCommand {p : Opcodes} (h : p.distinct) (c : Command) : labelOf p (p.ofCommand c) = .command c := by
  rw [labelOf, findCommand_ofCommand h c]

theorem labelOf_ofReserved {p : Opcodes} (h : p.distinct) (r : ReservedOp) :
    labelOf p (p.ofReserved r) = .reservedOp := by
  have hfound : (p.findReserved (p.ofReserved r)).isSome = true :=
    List.find?_isSome.2 ⟨r, reservedOp_mem_all r, by simp⟩
  rw [labelOf, findCommand_eq_none fun c => ofCommand_ne_ofReserved h c r]
  exact if_pos hfound

theorem labelOf_of_notMem {p : Opcodes} {x : Byte} (h : x ∉ p.toList) : labelOf p x = .raw := by
  have hcommand : p.findCommand x = none := findCommand_eq_none fun c hc => h (hc ▸ ofCommand_mem_toList p c)
  have hreserved : p.findReserved x = none := findReserved_eq_none fun r hr => h (hr ▸ ofReserved_mem_toList p r)
  rw [labelOf, hcommand, hreserved]; rfl

/-! ### DECODE and EXECUTE of a command -/

/-- DECODE of a command waits for a header (R118, T10). -/
theorem execDecode_of_command {o : Operands} {c : Command} {s : State} (h : free s)
    (hc : Command.ofSelector o.cmd = some c) :
    execDecode o s = .next { s with
      fsm := .awaitingAck, req := some ⟨0x30, o⟩, err := .none, errInfo := 0
      txbuf := [], txIdx := 0, ackStatus := none, ackLen := none, rxbuf := [], rxIdx := 0 } := by
  have hbusy := free_iff_busy_eq_false.1 h
  rw [execDecode, issue_of_free hbusy, hc, accept_of_free hbusy]; rfl

theorem execDecode_of_badSelector {o : Operands} {s : State} (h : free s) (hc : Command.ofSelector o.cmd = none) :
    execDecode o s = .next (refusedAtOnce ⟨0x30, o⟩ 2 s) := by
  rw [execDecode, issue_of_free (free_iff_busy_eq_false.1 h), hc]
  exact congrArg Host.Outcome.next (invalidParameter_accept_keep_latch (by decide) o h .badSelector)

/-- A frame whose operands are in range has 6 to 139 bytes, so it is not empty and `tx_idx` counts them (R53, R89). -/
theorem frame_length_bounds (p : Opcodes) {o : Operands} {c : Command} (h : inRange o c) :
    0 < (frame p o c).length ∧ (frame p o c).length ≤ 139 := by
  have hpayload := framePayload_length_le c o ((operandFault_eq_none_iff c o).2 h)
  rw [frame_eq_frameBytes, frameBytes_length]
  omega

/-- The state in which EXECUTE of a single-shot command has the block start to transmit (R133, R135, R137). -/
def executing (c : Command) (o : Operands) (s : State) : State :=
  { s with
    fsm := .transmitting, req := some ⟨0x40, o⟩, err := .none, errInfo := 0
    crcAcc := crc32 (layout s.opcodes o c), txbuf := frame s.opcodes o c, txIdx := 0
    ackStatus := none, ackLen := none, rxbuf := [], rxIdx := 0, cancelLatch := false }

/-- EXECUTE of a single-shot command builds its frame and goes on to Transmitting (R137, T5). -/
theorem execExecute_of_inRange {o : Operands} {c : Command} {s : State} (h : free s)
    (hc : Command.ofSelector o.cmd = some c) (hmw : c ≠ .memoryWrite) (hrange : inRange o c) :
    execExecute o s = .next (executing c o s) := by
  have hbusy := free_iff_busy_eq_false.1 h
  rw [executing, layout_eq_frameBody, frame_eq_frameBytes, execExecute, issue_of_free hbusy, hc, accept_of_free hbusy]
  simp only [(operandFault_eq_none_iff c o).2 hrange]
  rfl

/-! ### A response against a device that answers -/

/-- Where the block waits for a header, the status byte 0xCD is recorded (R103, T15). -/
theorem step_of_acknowledged {s : State} {ds : List RxDraw} (hnil : s.inbox = []) (hf : s.fsm = .awaitingAck)
    (hfirst : s.ackStatus = none) (hrx : s.chanRx = .byte 0xCD :: ds) :
    step s = .next { s with ackStatus := some 0xCD, chanRx := ds } := by
  have hd : chanRead s = (.byte Config.ackOk, { s with chanRx := ds }) := chanRead_of_draws (.inl ⟨ds, hrx, rfl⟩)
  have hturn : blockTurn s = headerStep s := by simp only [blockTurn, hf, hfirst, if_true]
  rw [step_of_nil hnil, hturn, headerStep, hd]
  exact congrArg Host.Outcome.next (readStatus_ackOk (s := { s with chanRx := ds }) hf hfirst)

/-- The payload bytes still to come are read in as many steps, and the last of them ends the exchange (R104, T19,
T20). -/
theorem run_payload {s t : State} {l b : Byte} {p : List Byte} {ds : List RxDraw} (hnil : s.inbox = [])
    (hf : s.fsm = .awaitingPayload) (hl : s.ackLen = some l) (hleft : s.rxIdx.toNat + (p.length + 1) = l.toNat)
    (hrx : s.chanRx = (b :: p).map .byte ++ ds)
    (hend : payloadComplete { s with chanRx := ds, rxbuf := s.rxbuf ++ b :: p, rxIdx := l } = .next t) :
    core.run (p.length + 1) s = .next t := by
  induction p generalizing s b with
  | nil =>
    have hd : chanRead s = (.byte b, { s with chanRx := ds }) := chanRead_of_draws (.inl ⟨_, hrx, rfl⟩)
    have hlast : s.rxIdx + 1 = l := by simp only [List.length_nil] at hleft; bv_omega
    have hstep := (step_of_awaitingPayload hnil hf).trans (readPayloadByte_last hl hleft hd rfl)
    refine run_succ_of_next (M := core) 0 (hstep.trans ?_)
    rw [← hlast] at hend
    exact hend
  | cons b' p ih =>
    have hd : chanRead s = (.byte b, { s with chanRx := (b' :: p).map .byte ++ ds }) :=
      chanRead_of_draws (.inl ⟨_, hrx, rfl⟩)
    have hlt : s.rxIdx.toNat + 1 < l.toNat := by simp only [List.length_cons] at hleft; omega
    have hleft' : (s.rxIdx + 1).toNat + (p.length + 1) = l.toNat := by
      simp only [List.length_cons] at hleft; bv_omega
    have hstep := (step_of_awaitingPayload hnil hf).trans (readPayloadByte_go hl hlt hd rfl)
    refine (run_succ_of_next (M := core) _ hstep).trans (ih hnil hf hl hleft' rfl ?_)
    simpa using hend

/-- An exchange with its response read, about to run its command (R103, R104). -/
def withResponse (l : Byte) (p : List Byte) (ds : List RxDraw) (s : State) : State :=
  { s with fsm := .decoded, ackStatus := some 0xCD, ackLen := some l, rxbuf := p, rxIdx := l, chanRx := ds }

/-- An acknowledged response of `l` bytes is read in `2 + l` steps, and the last of them runs the command of the
exchange (R103, R104). -/
theorem run_response {s t : State} {c : Command} {l : Byte} {p : List Byte} {ds : List RxDraw} (hnil : s.inbox = [])
    (hf : s.fsm = .awaitingAck) (hfirst : s.ackStatus = none) (hc : exchangeOf c s) (hlen : p.length = l.toNat)
    (hrx : s.chanRx = .byte 0xCD :: .byte l :: p.map .byte ++ ds)
    (hend : finishCommand c (withResponse l p ds s) = .next t) :
    core.run (2 + l.toNat) s = .next t := by
  have hstatus := step_of_acknowledged hnil hf hfirst hrx
  have hd : chanRead { s with ackStatus := some 0xCD, chanRx := .byte l :: (p.map .byte ++ ds) } =
      (.byte l, { s with ackStatus := some 0xCD, chanRx := p.map .byte ++ ds }) := rfl
  have hsecond := step_of_second
    (s := { s with ackStatus := some 0xCD, chanRx := .byte l :: (p.map .byte ++ ds) }) hnil hf rfl
  rw [Nat.add_comm]
  refine (run_succ_of_next (M := core) _ hstatus).trans ?_
  cases p with
  | nil =>
    obtain rfl : l = 0 := BitVec.eq_of_toNat_eq hlen.symm
    have hstep := hsecond.trans (readAckLen_zero hd)
    exact run_succ_of_next (M := core) 0
      (hstep.trans ((payloadComplete_of_exchangeOf (exchangeOf_of_req hc (by rfl))).trans hend))
  | cons b p =>
    have hpos : l ≠ 0 := by rintro rfl; cases hlen
    have hstep := hsecond.trans (readAckLen_pos hd hpos)
    refine (run_succ_of_next (M := core) _ hstep).trans ?_
    rw [← hlen]
    refine run_payload hnil rfl rfl ?_ rfl ((payloadComplete_of_exchangeOf (exchangeOf_of_req hc (by rfl))).trans hend)
    simpa using hlen

/-- A frame that was written whole, with its header awaited (R135). -/
def frameWritten (s : State) : State :=
  { s with chanTx := s.chanTx ++ s.txbuf, txIdx := BitVec.ofNat 8 s.txbuf.length, fsm := .awaitingAck }

/-- A frame of which nothing was written is written in as many steps as it has bytes (R47, R135). -/
theorem run_frame {s : State} (hnil : s.inbox = []) (hf : s.fsm = .transmitting) (hidx : s.txIdx = 0)
    (hpos : 0 < s.txbuf.length) (hfit : s.txbuf.length ≤ 139) :
    core.run s.txbuf.length s = .next (frameWritten s) := by
  obtain ⟨n, hn⟩ := Nat.exists_eq_succ_of_ne_zero hpos.ne'
  have hrun := run_transmitting n hnil hf hfit (by rw [hidx, hn]; exact Nat.zero_add _)
  rw [hidx] at hrun
  rw [hn]
  exact hrun

/-- An exchange that is acknowledged writes its frame and reads its response, one byte a step, and the last step runs
the command (R103, R104, R135). -/
theorem run_exchange {s t : State} {c : Command} {l : Byte} {p : List Byte} {ds : List RxDraw} (hnil : s.inbox = [])
    (hf : s.fsm = .transmitting) (hfirst : s.ackStatus = none) (hidx : s.txIdx = 0) (hpos : 0 < s.txbuf.length)
    (hfit : s.txbuf.length ≤ 139) (hc : exchangeOf c s) (hlen : p.length = l.toNat)
    (hrx : s.chanRx = .byte 0xCD :: .byte l :: p.map .byte ++ ds)
    (hend : finishCommand c (withResponse l p ds (frameWritten s)) = .next t) :
    core.run (s.txbuf.length + (2 + l.toNat)) s = .next t :=
  (run_add_of_next (M := core) _ _ (run_frame hnil hf hidx hpos hfit)).trans
    (run_response (s := frameWritten s) hnil rfl hfirst hc hlen hrx hend)

end Sys2Proof.Machine

section
open Sys2Proof Sys2Proof.Machine Sys2Proof.Spec

/-- Settles O27: the list is the payload with `labelOf` of each byte. -/
theorem helpLabelsEveryByte : Obligations.HelpLabelsEveryByte := by
  intro s l p h hp
  refine ⟨p.map fun x => (x, labelOf s.opcodes x), exec_wireInstr_of_responseRead h Operands.zero .getHelp, ?bytes,
    ?labels⟩
  case bytes => rw [List.map_map]; exact List.map_id p
  case labels =>
    intro e he
    obtain ⟨x, -, rfl⟩ := List.mem_map.1 he
    refine ⟨?command, ?reserved, labelOf_of_notMem⟩
    case command => rintro c rfl; exact labelOf_ofCommand hp c
    case reserved => rintro r rfl; exact labelOf_ofReserved hp r

/-- Settles O59: acceptance, the frame, then the response, one run after another. -/
theorem singleShotExchangeRunsToItsEnd : Obligations.SingleShotExchangeRunsToItsEnd := by
  intro s o c l p ds hfree ha hin hc hmw hrange hlen hrx
  obtain ⟨hpos, hfit⟩ := frame_length_bounds s.opcodes hrange
  have haccept := (step_of_request hfree hin).trans
    (execExecute_of_inRange (s := { s with inbox := [] }) hfree hc hmw hrange)
  have hc' : singleExchangeOf ⟨0x40, o⟩ = some c := by simpa [singleExchangeOf, hc] using hmw
  have hrun := run_exchange (s := executing c o { s with inbox := [] }) rfl rfl rfl rfl hpos hfit ⟨_, rfl, .inl hc'⟩
    hlen hrx (finishCommand_single c ha rfl)
  obtain ⟨e, info, hfatal, hend⟩ := deliverPayload_eq_endRequest l (decodeResponse s.opcodes c l p)
    (withResponse l p ds (frameWritten (executing c o { s with inbox := [] })))
  rw [Nat.add_assoc, Nat.add_assoc, Nat.add_comm 1]
  refine ⟨_, (run_succ_of_next (M := core) _ haccept).trans (hrun.trans (congrArg Host.Outcome.next hend)), ?_⟩
  simp [hfatal, withResponse, frameWritten, executing]

/-- Settles O25: acceptance, then the selector check. -/
theorem decodeWaitsForAHeader : Obligations.DecodeWaitsForAHeader := fun _ _ hfree =>
  ⟨fun _ hc => execDecode_of_command hfree hc, execDecode_of_badSelector hfree⟩

/-- Settles O26: the payloads have the lengths that the two decoders interpret. -/
theorem versionAndChipIdAreDecoded : Obligations.VersionAndChipIdAreDecoded := by
  refine fun s => ⟨fun a b c d h => exec_wireInstr_of_responseRead h Operands.zero .getVersion, fun b0 b1 h => ?_⟩
  rw [← join16_eq]
  exact exec_wireInstr_of_responseRead h Operands.zero .getChipId

/-- Settles O28: each decoder is a choice by the byte, and delivering its payload is that choice of ends. -/
theorem oneByteAnswersAreDecoded : Obligations.OneByteAnswersAreDecoded := by
  intro s b o h
  have hexec := exec_wireInstr_of_responseRead h o
  have ⟨_, _, _, hbuf, hlen⟩ := h
  have hunknown : deliverPayload 1 (.unknown [b]) s = reported 1 b s := deliverPayload_unknown hbuf hlen
  refine ⟨(hexec .getReadProtectionStatus).trans ?_, (hexec .jumpToAddress).trans ?_, (hexec .eraseFlash).trans ?_,
    (hexec .memoryWrite).trans ?_, (hexec .changeReadProtectionLevel).trans ?_, (hexec .jumpToApplication).trans ?_⟩
  all_goals
    refine congrArg Host.Outcome.next ?_
    simp only [decodeResponse, decodeGetReadProtectionStatus_one, decodeJumpToAddress_one, decodeEraseFlash_one,
      decodeMemoryWrite_one, decodeChangeReadProtectionLevel_one, decodeJumpToApplication_one,
      apply_ite (deliverPayload 1 · s), hunknown]
    rfl

/-- Settles O29: the decoder answers the raw bytes, which are reported. -/
theorem wrongLengthIsReported : Obligations.WrongLengthIsReported := by
  intro s l p o c h hhelp hversion hchip hone
  have ⟨_, _, _, hbuf, hlen⟩ := h
  rw [exec_wireInstr_of_responseRead h, decodeResponse_of_wrongLength _ _ hhelp hversion hchip hone,
    deliverPayload_unknown hbuf hlen]

end

namespace Sys2Proof.Machine
open Sys2Proof Sys2Proof.Spec

/-! ### The loop head of a transfer -/

/-- With bytes left and no latch the next chunk begins (R122, T23). -/
theorem xferNext_of_more {s : State} (hlt : s.xsSent.toNat < s.xsTotal.toNat) (hlatch : s.cancelLatch = false) :
    xferNext s = chunkBegin s := by
  rw [xferNext, if_pos hlt, hlatch]; rfl

/-- With bytes left and the latch set the transfer is cancelled (R121, T24). -/
theorem xferNext_of_latch {s : State} (hlt : s.xsSent.toNat < s.xsTotal.toNat) (hlatch : s.cancelLatch = true) :
    xferNext s = xferAbort .cancelled 0 s := by
  rw [xferNext, if_pos hlt, hlatch]; rfl

/-- With none left the transfer ends (R127, T25). -/
theorem xferNext_of_none {s : State} (hle : s.xsTotal.toNat ≤ s.xsSent.toNat) : xferNext s = xferEnd s := by
  rw [xferNext, if_neg (Nat.not_lt.2 hle)]

/-- An error that is not fatal ends its request in Idle (R146, R147). -/
theorem endRequest_of_not_fatal {e : ErrCode} (he : e.fatal = false) (info : Half) (r : Option Result) (s : State) :
    endRequest e info r s = ended e info r .idle s := by
  rw [endRequest, he]; rfl

/-- `xfer_end` with the state it leaves written out: an unknown response is no fatal error (R127, R146). -/
theorem xferEnd_eq (s : State) :
    xferEnd s = { ended (if s.xsUnknown then .unknownResponseCode else .none) 0
        (some (.transfer s.xsAllOk s.xsSent s.xsUnknown)) .idle s with
      xsActive := false, cancelLatch := false } := by
  refine endRequest_of_not_fatal ?_ 0 _ { s with xsActive := false, cancelLatch := false }
  cases s.xsUnknown <;> rfl

/-- With no input from outside a step in Pacing ends the interval (R126). -/
theorem step_of_pacing {s : State} (hnil : s.inbox = []) (hf : s.fsm = .pacing) : step s = .next (xferNext s) := by
  rw [step_of_nil hnil]; simp only [blockTurn, hf, pacingEnd]

/-! ### SEND_IMAGE -/

theorem transferRangeOk_iff (b0 : Word) (l : DWord) :
    transferRangeOk b0 l = true ↔ b0.toNat + l.toNat ≤ 2 ^ 32 := by
  simp only [transferRangeOk, decide_eq_true_eq]

/-- A range within the address space starts a session and comes to the head of its loop (R119, R120). -/
theorem execSendImage_of_inRange {o : Operands} {s : State} (h : free s)
    (hrange : o.a32.toNat + o.len64.toNat ≤ 2 ^ 32) :
    execSendImage o s = .next (xferNext (xferStart o.a32 o.len64 (accept ⟨0x50, o⟩ s))) := by
  rw [execSendImage, issue_of_free (free_iff_busy_eq_false.1 h), sendImage,
    if_pos ((transferRangeOk_iff o.a32 o.len64).2 hrange)]

/-- A range past the address space is refused, with the latch cleared (R30, R120). -/
theorem execSendImage_of_badRange {o : Operands} {s : State} (h : free s)
    (hrange : 2 ^ 32 < o.a32.toNat + o.len64.toNat) :
    execSendImage o s = .next { refusedAtOnce ⟨0x50, o⟩ 6 s with cancelLatch := false } := by
  have hbad : ¬transferRangeOk o.a32 o.len64 = true := by rw [transferRangeOk_iff]; omega
  rw [execSendImage, issue_of_free (free_iff_busy_eq_false.1 h), sendImage, if_neg hbad,
    invalidParameter_accept .badRange h]
  rfl

/-! ### The response to a chunk -/

/-- A write status is one byte 0 or one byte 1; any other response is unknown (R115). -/
theorem decodeMemoryWrite_eq {l : Byte} {p : List Byte} (hlen : p.length = l.toNat) :
    decodeMemoryWrite l p = if p = [0] then .writeFailed else if p = [1] then .writeSuccess else .unknown p := by
  by_cases hl : l = 1
  · subst hl
    obtain ⟨b, rfl⟩ := List.length_eq_one_iff.1 hlen
    simp only [decodeMemoryWrite_one, List.cons.injEq, and_true]
  · have hne (b : Byte) : p ≠ [b] := by
      rintro rfl
      exact hl (BitVec.eq_of_toNat_eq hlen.symm)
    rw [if_neg (hne 0), if_neg (hne 1)]
    exact if_pos hl

/-- The session after a chunk whose response has the bytes `p` (R123, R124). -/
def sessionAdvanced (p : List Byte) (s : State) : State :=
  { s with
    xsAllOk := s.xsAllOk && (p == [1])
    xsUnknown := s.xsUnknown || !(p == [0] || p == [1])
    xsSent := s.xsSent + s.xsCurLen.setWidth 64
    xsBase := s.xsBase + s.xsCurLen.setWidth 32 }

/-- The update of the session by a decoded write status is that by its bytes (R115, R123). -/
theorem xferUpdate_decodeMemoryWrite {l : Byte} {p : List Byte} (s : State) (hlen : p.length = l.toNat) :
    xferUpdate (decodeMemoryWrite l p) s = sessionAdvanced p s := by
  rw [decodeMemoryWrite_eq hlen]
  by_cases h0 : p = [0]
  · rw [if_pos h0]; simp [xferUpdate, sessionAdvanced, h0]
  · by_cases h1 : p = [1]
    · rw [if_neg h0, if_pos h1]; simp [xferUpdate, sessionAdvanced, h1]
    · have hne0 : (p == [0]) = false := beq_false_of_ne h0
      have hne1 : (p == [1]) = false := beq_false_of_ne h1
      have hok : (Payload.unknown p == .writeSuccess) = false := rfl
      rw [if_neg h0, if_neg h1]
      simp only [xferUpdate, sessionAdvanced, hok, hne0, hne1, Bool.or_self, Bool.not_false, Bool.or_true]

/-- A chunk's exchange ends in Pacing with the session advanced (R123, R126, T22). -/
theorem finishCommand_chunk_advanced {s : State} {l : Byte} (ha : s.xsActive = true) (hl : s.ackLen = some l)
    (hlen : s.rxbuf.length = l.toNat) :
    finishCommand .memoryWrite s = .next { sessionAdvanced s.rxbuf s with fsm := .pacing } := by
  rw [finishCommand_chunk ha hl, xferUpdate_decodeMemoryWrite s hlen]

end Sys2Proof.Machine

section
open Sys2Proof Sys2Proof.Machine Sys2Proof.Spec

/-- Settles O32: acceptance, the range check, and the head of the transfer loop. -/
theorem sendImageCreatesTheSession : Obligations.SendImageCreatesTheSession := by
  intro o s hfree
  have haccept := accept_of_free (q := ⟨0x50, o⟩) (free_iff_busy_eq_false.1 hfree)
  refine ⟨fun hrange hpos => (execSendImage_of_inRange hfree hrange).trans ?chunk,
    fun hzero => (execSendImage_of_inRange hfree ?small).trans ?empty, execSendImage_of_badRange hfree⟩
  case chunk =>
    have hlt : (0 : DWord).toNat < o.len64.toNat := by bv_omega
    rw [haccept, xferNext_of_more hlt rfl]
    rfl
  case small =>
    rw [hzero]; exact o.a32.isLt.le
  case empty =>
    rw [haccept, hzero, xferNext_of_none le_rfl]
    rfl

/-- Settles O42: MemoryWrite in Decoded is the end of the chunk's exchange. -/
theorem chunkResponseUpdatesTheSession : Obligations.ChunkResponseUpdatesTheSession := by
  rintro s l p a d hf ha hl rfl hlen
  exact (exec_wireInstr_of_decoded { Operands.zero with a32 := a, data := d } .memoryWrite hf).trans
    (finishCommand_chunk_advanced ha hl hlen)

/-- Settles O43: the step in Pacing is the head of the transfer loop. -/
theorem pacingGoesOnCancelsOrEnds : Obligations.PacingGoesOnCancelsOrEnds := by
  intro s hnil hf
  rw [step_of_pacing hnil hf]
  refine ⟨fun hlt hlatch => ?more, fun hlt hlatch => ?latch, fun hle => ?none⟩
  case more => rw [xferNext_of_more hlt hlatch]; rfl
  case latch => rw [xferNext_of_latch hlt hlatch]; rfl
  case none => rw [xferNext_of_none hle, xferEnd_eq]

end

namespace Sys2Proof.Machine
open Sys2Proof Sys2Proof.Spec

/-- States with the same next step have the same runs. -/
theorem run_succ_congr {s t : State} (n : Nat) (h : step s = step t) : core.run (n + 1) s = core.run (n + 1) t := by
  have hcore : core.step s = core.step t := h
  simp only [Host.Core.run, hcore]

/-! ### A chunk against a device that answers -/

/-- The bytes that a transfer of `len` bytes of the image `img` to `base` puts on the wire: the frames of `k` chunks of
up to 128 bytes (R122, R125). -/
def chunkFrames (opc : Byte) (base : Word) (img : List Byte) (len k : Nat) : List Byte :=
  (List.range k).flatMap fun i => frameBytes opc
    (memoryWritePayload (base + BitVec.ofNat 32 (128 * i)) ((img.drop (128 * i)).take (min 128 (len - 128 * i))))

/-- The first chunk of a transfer is at the base with the head of the image, and the others are those of what is left
(R125). -/
theorem chunkFrames_succ (opc : Byte) (base : Word) (img : List Byte) {len n k : Nat} (hn : n = min 128 len)
    (hk : k = (len - n + 127) / 128) :
    chunkFrames opc base img len (k + 1) =
      frameBytes opc (memoryWritePayload base (img.take n)) ++
        chunkFrames opc (base + BitVec.ofNat 32 n) (img.drop n) (len - n) k := by
  simp only [chunkFrames, List.range_succ_eq_map, List.flatMap_cons, List.flatMap_map, Nat.mul_zero, BitVec.add_zero,
    List.drop_zero, Nat.sub_zero, ← hn]
  refine (List.append_right_inj _).2 ?_
  rcases Nat.lt_or_ge len 128 with hlt | hge
  · obtain rfl : k = 0 := by omega
    simp only [List.range_zero, List.flatMap_nil]
  · obtain rfl : n = 128 := by omega
    have hbase (i : Nat) :
        base + BitVec.ofNat 32 (128 * (i + 1)) = base + BitVec.ofNat 32 128 + BitVec.ofNat 32 (128 * i) := by
      rw [Nat.mul_succ, Nat.add_comm, BitVec.ofNat_add, BitVec.add_assoc]
    have hleft (i : Nat) : len - 128 * (i + 1) = len - 128 - 128 * i := by omega
    have hdrop (i : Nat) : 128 * (i + 1) = 128 + 128 * i := by omega
    simp only [Nat.succ_eq_add_one, hbase, hleft, List.drop_drop, ← hdrop]

/-- A device that acknowledges each chunk and answers it with one status byte (R115). -/
def chunkAnswers (st : List Byte) : List RxDraw := st.flatMap fun x => [.byte 0xCD, .byte 1, .byte x]

/-- A transfer between two chunks, not cancelled, with the image and the answers of the device at hand: `st` are the
status bytes of the chunks that are left, `ds` what the device sends after them. -/
structure Paced (st : List Byte) (ds : List RxDraw) (s : State) : Prop where
  inbox : s.inbox = []
  fsm : s.fsm = .pacing
  active : s.xsActive = true
  latch : s.cancelLatch = false
  exchange : exchangeOf .memoryWrite s
  sentLe : s.xsSent.toNat ≤ s.xsTotal.toNat
  image : s.xsTotal.toNat - s.xsSent.toNat ≤ s.imageSource.length
  chunks : st.length = (s.xsTotal.toNat - s.xsSent.toNat + 127) / 128
  answers : s.chanRx = chunkAnswers st ++ ds

/-- The state in which a chunk's frame starts to be written, `n` bytes of the image in it (R122, T11). -/
def chunkSending (n : Nat) (s : State) : State :=
  beginTransmit (buildFrame s.opcodes.memoryWrite (memoryWritePayload s.xsBase (s.imageSource.take n))
    { s with fsm := .encoding, xsCurLen := BitVec.ofNat 8 n, imageSource := s.imageSource.drop n })

/-- The state after a chunk of `n` bytes that was answered with the status byte `x` (R122 to R126). -/
def chunkAnswered (n : Nat) (x : Byte) (ds : List RxDraw) (s : State) : State :=
  { sessionAdvanced [x] (withResponse 1 [x] ds (frameWritten (chunkSending n s))) with fsm := .pacing }

/-- The end of a pacing interval and the chunk step after it lead to a frame with the next chunk (T11, T23). -/
theorem run_chunkSending {s : State} {n : Nat} (hnil : s.inbox = []) (hf : s.fsm = .pacing)
    (hlatch : s.cancelLatch = false) (hlt : s.xsSent.toNat < s.xsTotal.toNat)
    (hn : n = min 128 (s.xsTotal.toNat - s.xsSent.toNat)) (himage : n ≤ s.imageSource.length) :
    core.run 2 s = .next (chunkSending n s) := by
  have hlen : (chunkBegin s).xsCurLen.toNat = n := (chunkBegin_xsCurLen_toNat s).trans hn.symm
  have hok : chunkLengthOk (chunkBegin s).xsCurLen.toNat = true := by rw [hlen]; simp [chunkLengthOk]; omega
  have hpaced : step s = .next (chunkBegin s) := by rw [step_of_pacing hnil hf, xferNext_of_more hlt hlatch]
  have hchunk : step (chunkBegin s) = .next (chunkSending n s) := by
    have hturn : blockTurn (chunkBegin s) = chunkStep (chunkBegin s) := rfl
    have hfull : (chunkBegin s).xsCurLen.toNat ≤ (chunkBegin s).imageSource.length := by rw [hlen]; exact himage
    rw [step_of_nil (s := chunkBegin s) hnil, hturn, chunkStep_of_full rfl hok hfull, hlen, hn]
    rfl
  exact (run_succ_of_next (M := core) 1 hpaced).trans (run_succ_of_next (M := core) 0 hchunk)

/-- One chunk, from a pacing interval to the next, is `n + 16` steps. -/
theorem run_chunk {s : State} {n : Nat} {x : Byte} {st : List Byte} {ds : List RxDraw} (h : Paced (x :: st) ds s)
    (hn : n = min 128 (s.xsTotal.toNat - s.xsSent.toNat)) :
    core.run (n + 16) s = .next (chunkAnswered n x (chunkAnswers st ++ ds) s) := by
  have hlt : s.xsSent.toNat < s.xsTotal.toNat := by have := h.chunks; simp only [List.length_cons] at this; omega
  have himage : n ≤ s.imageSource.length := by have := h.image; omega
  have hlen : (chunkSending n s).txbuf.length = n + 11 := by simp [chunkSending, himage]
  have hsending := run_chunkSending h.inbox h.fsm h.latch hlt hn himage
  have hend : finishCommand .memoryWrite
      (withResponse 1 [x] (chunkAnswers st ++ ds) (frameWritten (chunkSending n s))) =
      .next (chunkAnswered n x (chunkAnswers st ++ ds) s) := finishCommand_chunk_advanced h.active rfl rfl
  have hexchange := run_exchange (s := chunkSending n s) (l := 1) (p := [x]) h.inbox rfl rfl rfl (by omega) (by omega)
    (exchangeOf_of_req h.exchange (by rfl)) rfl h.answers hend
  rw [hlen] at hexchange
  have hsteps : n + 16 = 2 + (n + 11 + (2 + (1 : Byte).toNat)) := by simp; omega
  rw [hsteps]
  exact (run_add_of_next (M := core) 2 _ hsending).trans hexchange

/-! ### A whole transfer -/

/-- The response of a transfer (R127, R130). -/
def transferResponse (allOk : Bool) (total : DWord) (unknown : Bool) : Response :=
  ⟨if unknown then .unknownResponseCode else .none, 0, some (.transfer allOk total unknown)⟩

/-- `t` is the end of the transfer that stands between two chunks in `s`, with the status bytes `st` of the chunks left
(R124, R125, R127). -/
structure Transferred (st : List Byte) (ds : List RxDraw) (s t : State) : Prop where
  fsm : t.fsm = .idle
  active : t.xsActive = false
  inbox : t.inbox = []
  answers : t.chanRx = ds
  image : t.imageSource = s.imageSource.drop (s.xsTotal.toNat - s.xsSent.toNat)
  wire : t.chanTx = s.chanTx ++
    chunkFrames s.opcodes.memoryWrite s.xsBase s.imageSource (s.xsTotal.toNat - s.xsSent.toNat) st.length
  response : t.responses = s.responses ++ [transferResponse (s.xsAllOk && st.all (· == 1)) s.xsTotal
    (s.xsUnknown || st.any fun x => x != 0 && x != 1)]

/-- With no chunk left no byte is left. -/
theorem Paced.none_left {ds : List RxDraw} {s : State} (h : Paced [] ds s) :
    s.xsTotal.toNat - s.xsSent.toNat = 0 := by
  have hcount := h.chunks
  simp only [List.length_nil] at hcount
  omega

/-- With no chunk left the transfer ends with its aggregate (R127). -/
theorem Paced.transferred_xferEnd {ds : List RxDraw} {s : State} (h : Paced [] ds s) :
    Transferred [] ds s (xferEnd s) := by
  have hnone := h.none_left
  have hall : s.xsSent = s.xsTotal := BitVec.eq_of_toNat_eq (by have := h.sentLe; omega)
  rw [xferEnd_eq]
  exact {
    fsm := rfl
    active := rfl
    inbox := h.inbox
    answers := h.answers
    image := by rw [hnone]; rfl
    wire := (List.append_nil _).symm
    response := by simp [ended, transferResponse, hall] }

@[simp] theorem chunkAnswered_xsTotal (n : Nat) (x : Byte) (ds : List RxDraw) (s : State) :
    (chunkAnswered n x ds s).xsTotal = s.xsTotal := rfl

@[simp] theorem chunkAnswered_imageSource (n : Nat) (x : Byte) (ds : List RxDraw) (s : State) :
    (chunkAnswered n x ds s).imageSource = s.imageSource.drop n := rfl

/-- A chunk of the length the next one has advances the count by it, without a wrap (R123). -/
theorem chunkAnswered_xsSent_toNat {s : State} {n : Nat} (x : Byte) (ds : List RxDraw)
    (hn : n = min 128 (s.xsTotal.toNat - s.xsSent.toNat)) :
    (chunkAnswered n x ds s).xsSent.toNat = s.xsSent.toNat + n := by
  have hsent : (chunkAnswered n x ds s).xsSent = s.xsSent + (BitVec.ofNat 8 n).setWidth 64 := rfl
  have := s.xsTotal.isLt
  rw [hsent, BitVec.toNat_add, BitVec.toNat_setWidth, BitVec.toNat_ofNat]
  omega

/-- The status bytes to come after the next chunk are those of the chunks left (R124). -/
theorem Paced.chunks_left {x : Byte} {st : List Byte} {ds : List RxDraw} {s : State} {n : Nat}
    (h : Paced (x :: st) ds s) (hn : n = min 128 (s.xsTotal.toNat - s.xsSent.toNat)) :
    st.length = (s.xsTotal.toNat - s.xsSent.toNat - n + 127) / 128 := by
  have hcount := h.chunks
  simp only [List.length_cons] at hcount
  omega

/-- After a chunk the transfer stands before the next one, whatever the chunk's status (R123, R126). -/
theorem Paced.next {x : Byte} {st : List Byte} {ds : List RxDraw} {s : State} {n : Nat} (h : Paced (x :: st) ds s)
    (hn : n = min 128 (s.xsTotal.toNat - s.xsSent.toNat)) :
    Paced st ds (chunkAnswered n x (chunkAnswers st ++ ds) s) := by
  have hsent := chunkAnswered_xsSent_toNat x (chunkAnswers st ++ ds) hn
  have hleft := h.image
  have hle := h.sentLe
  exact {
    inbox := h.inbox
    fsm := rfl
    active := h.active
    latch := h.latch
    exchange := exchangeOf_of_req h.exchange rfl
    sentLe := by rw [hsent, chunkAnswered_xsTotal]; omega
    image := by rw [hsent, chunkAnswered_xsTotal, chunkAnswered_imageSource, List.length_drop]; omega
    chunks := by rw [hsent, chunkAnswered_xsTotal, ← Nat.sub_sub]; exact h.chunks_left hn
    answers := rfl }

/-- A chunk and what the transfer does after it are what the transfer does (R124, R125). -/
theorem Transferred.of_next {x : Byte} {st : List Byte} {ds : List RxDraw} {s t : State} {n : Nat}
    (h : Paced (x :: st) ds s) (hn : n = min 128 (s.xsTotal.toNat - s.xsSent.toNat))
    (ht : Transferred st ds (chunkAnswered n x (chunkAnswers st ++ ds) s) t) : Transferred (x :: st) ds s t := by
  have hsent := chunkAnswered_xsSent_toNat x (chunkAnswers st ++ ds) hn
  refine ⟨ht.fsm, ht.active, ht.inbox, ht.answers, ?image, ?wire, ?response⟩
  case image =>
    have htogether : n + (s.xsTotal.toNat - (s.xsSent.toNat + n)) = s.xsTotal.toNat - s.xsSent.toNat := by omega
    rw [ht.image, hsent, chunkAnswered_imageSource, chunkAnswered_xsTotal, List.drop_drop, htogether]
  case wire =>
    have hbase : (BitVec.ofNat 8 n).setWidth 32 = BitVec.ofNat 32 n := by
      apply BitVec.eq_of_toNat_eq; simp only [BitVec.toNat_setWidth, BitVec.toNat_ofNat]; omega
    rw [ht.wire, hsent, List.length_cons, chunkFrames_succ _ _ _ hn (h.chunks_left hn), ← hbase,
      ← List.append_assoc, Nat.sub_sub]
    rfl
  case response =>
    rw [ht.response]
    simp [chunkAnswered, sessionAdvanced, withResponse, frameWritten, chunkSending, Bool.and_assoc, Bool.or_assoc, bne]

/-- A transfer that is answered runs to its end, one chunk after another (R119, R131). -/
theorem run_transfer {st : List Byte} {ds : List RxDraw} {s : State} (h : Paced st ds s) :
    ∃ t, core.run (1 + 16 * st.length + (s.xsTotal.toNat - s.xsSent.toNat)) s = .next t ∧
      Transferred st ds s t := by
  induction st generalizing s with
  | nil =>
    have hnone := h.none_left
    have hend : step s = .next (xferEnd s) := by
      rw [step_of_pacing h.inbox h.fsm, xferNext_of_none (by omega)]
    rw [hnone]
    exact ⟨_, run_succ_of_next (M := core) 0 hend, h.transferred_xferEnd⟩
  | cons x st ih =>
    obtain ⟨n, hn⟩ : ∃ n, n = min 128 (s.xsTotal.toNat - s.xsSent.toNat) := ⟨_, rfl⟩
    obtain ⟨t, hrun, ht⟩ := ih (h.next hn)
    refine ⟨t, ?_, .of_next h hn ht⟩
    rw [chunkAnswered_xsSent_toNat _ _ hn, chunkAnswered_xsTotal] at hrun
    have hsteps : 1 + 16 * (x :: st).length + (s.xsTotal.toNat - s.xsSent.toNat) =
        n + 16 + (1 + 16 * st.length + (s.xsTotal.toNat - (s.xsSent.toNat + n))) := by
      rw [List.length_cons]; omega
    rw [hsteps]
    exact (run_add_of_next (M := core) _ _ (run_chunk h hn)).trans hrun

/-- The session that a SEND_IMAGE starts, at the head of its loop as after a pacing interval (R119, R120). -/
def sessionStarted (o : Operands) (s : State) : State :=
  { xferStart o.a32 o.len64 (accept ⟨0x50, o⟩ s) with fsm := .pacing }

/-- Accepting a SEND_IMAGE in range is the step that goes on with its session (R119, R134). -/
theorem step_sendImage {o : Operands} {s : State} (h : free s) (hin : s.inbox = [.request ⟨0x50, o⟩])
    (hrange : o.a32.toNat + o.len64.toNat ≤ 2 ^ 32) :
    step s = step (sessionStarted o { s with inbox := [] }) := by
  have haccept : step s = .next (xferNext (sessionStarted o { s with inbox := [] })) :=
    (step_of_request h hin).trans (execSendImage_of_inRange (s := { s with inbox := [] }) h hrange)
  rw [haccept, step_of_pacing (by simp [sessionStarted]) rfl]

/-- A session that was started has the whole image before it. -/
theorem paced_sessionStarted {o : Operands} {st : List Byte} {ds : List RxDraw} {s : State} (hin : s.inbox = [])
    (himage : o.len64.toNat ≤ s.imageSource.length) (hcount : st.length = (o.len64.toNat + 127) / 128)
    (hrx : s.chanRx = chunkAnswers st ++ ds) : Paced st ds (sessionStarted o s) where
  inbox := by simp [sessionStarted, hin]
  fsm := rfl
  active := rfl
  latch := by simp [sessionStarted]
  exchange := ⟨⟨0x50, o⟩, by simp [sessionStarted], .inr ⟨by simp [transferOf], rfl⟩⟩
  sentLe := Nat.zero_le _
  image := by simpa [sessionStarted] using himage
  chunks := by simpa [sessionStarted] using hcount
  answers := by simpa [sessionStarted] using hrx

end Sys2Proof.Machine

section
open Sys2Proof Sys2Proof.Machine Sys2Proof.Spec

/-- Settles O60: acceptance goes on with the session it starts, which runs to its end by induction on the chunks. -/
theorem transferRunsToItsEnd : Obligations.TransferRunsToItsEnd := by
  intro s o st ds hfree hin _ hrange himage hcount hrx
  have hpaced := paced_sessionStarted (s := { s with inbox := [] }) rfl himage hcount hrx
  obtain ⟨t, hrun, ht⟩ := run_transfer hpaced
  refine ⟨t, ?run, ht.fsm, ht.active, ht.inbox, ht.answers, ?image, ?wire, ?response⟩
  case run =>
    rw [Nat.add_assoc, Nat.add_comm 1] at hrun ⊢
    exact (run_succ_congr _ (step_sendImage hfree hin hrange)).trans hrun
  case image => simpa [sessionStarted] using ht.image
  case wire => simpa [sessionStarted, chunkFrames] using ht.wire
  case response => simpa [sessionStarted, transferResponse] using ht.response

end

namespace Sys2Proof.Machine
open Sys2Proof Sys2Proof.Spec

/-! ### The aggregate of a transfer -/

/-- An end of an exchange that raises an error, or of the transfer, leaves a failed aggregate (R123, R128). -/
theorem raiseInExchange_xsAllOk {s : State} (e : ErrCode) (info : Half) (h : s.xsAllOk = false) :
    (raiseInExchange e info s).xsAllOk = false := by
  unfold raiseInExchange
  split
  · rfl
  · exact h

theorem xferNext_xsAllOk {s : State} (h : s.xsAllOk = false) : (xferNext s).xsAllOk = false := by
  rcases xferNext_cases s with ⟨-, -, hn⟩ | ⟨-, -, hn⟩ | ⟨-, hn⟩ <;> rw [hn]
  · rfl
  · exact h
  · exact h

/-- The end of an exchange ANDs the aggregate, or leaves it (R123). -/
theorem payloadComplete_xsAllOk {s t : State} (hstep : payloadComplete s = .next t) (h : s.xsAllOk = false) :
    t.xsAllOk = false := by
  rcases payloadComplete_cases hstep with ⟨p, -, rfl⟩ | ⟨l, p, rfl⟩
  · have hand : (s.xsAllOk && p == .writeSuccess) = false := by rw [h, Bool.false_and]
    exact hand
  · rcases deliverPayload_cases l p { s with fsm := .decoded } with hd | ⟨_, -, hd⟩ <;> rw [hd] <;> exact h

/-- The block's own step leaves a failed aggregate failed (R123). -/
theorem blockTurn_xsAllOk {s t : State} (hstep : blockTurn s = .next t) (h : s.xsAllOk = false) :
    t.xsAllOk = false := by
  cases blockTurn_cases hstep with
  | short _ _ _ heq => rw [heq]; rfl
  | writes _ heq =>
    obtain ⟨tx, i, f, hwrite, -⟩ := transmitByte_frame s
    rw [heq, hwrite]; exact h
  | raises _ _ _ _ e info _ _ heq => rw [heq]; exact raiseInExchange_xsAllOk e info h
  | decodes _ _ _ _ _ _ _ heq => exact payloadComplete_xsAllOk heq h
  | paces _ heq => rw [heq]; exact xferNext_xsAllOk h
  | waits _ heq | chunk _ _ _ heq | acknowledged _ _ _ _ _ heq | header _ _ _ _ _ _ heq | payload _ _ _ _ _ heq =>
    rw [heq]; exact h

/-! ### The ways into Aborted -/

/-- Delivering a payload leads to Idle (R106, R146). -/
theorem deliverPayload_fsm (l : Byte) (p : Payload) (s : State) : (deliverPayload l p s).fsm = .idle := by
  rcases deliverPayload_cases l p s with hd | ⟨_, -, hd⟩ <;> rw [hd] <;> rfl

/-- In a transfer an error of an exchange is `xfer_abort` (R119). -/
theorem raiseInExchange_of_active {s : State} (e : ErrCode) (info : Half) (ha : s.xsActive = true) :
    raiseInExchange e info s = xferAbort e info s := if_pos ha

/-- A step of the block into Aborted, from a transfer, reports what was sent and failure, and bytes are left where it
comes from Pacing (R121, R128). -/
theorem blockTurn_abort {s t : State} (hbusy : s.fsm.busy = true) (ha : s.xsActive = true)
    (hstep : blockTurn s = .next t) (hf : t.fsm = .aborted) :
    (s.fsm = .pacing → s.xsSent.toNat < s.xsTotal.toNat) ∧
      t.result = some (.transfer false s.xsSent s.xsUnknown) ∧ t.xsAllOk = false := by
  cases blockTurn_cases hstep with
  | waits hfree => rw [hbusy] at hfree; cases hfree
  | short hs _ _ heq => rw [heq]; exact ⟨by simp [hs], rfl, rfl⟩
  | chunk _ _ _ heq => rw [heq] at hf; cases hf
  | writes hs heq =>
    obtain ⟨tx, i, f, hwrite, hnext⟩ := transmitByte_frame s
    rw [heq, hwrite] at hf
    rcases hnext with rfl | rfl
    · rw [hs] at hf; cases hf
    · cases hf
  | raises hs _ _ _ e info _ _ heq =>
    rw [heq, raiseInExchange_of_active e info (by exact ha)]
    exact ⟨fun hp => by simp [hp] at hs, rfl, rfl⟩
  | acknowledged hs _ _ _ _ heq => rw [heq, hs] at hf; cases hf
  | header _ _ _ _ _ _ heq => rw [heq] at hf; cases hf
  | payload hs _ _ _ _ heq => rw [heq, hs] at hf; cases hf
  | decodes _ _ _ _ _ _ _ heq =>
    rcases payloadComplete_cases heq with ⟨p, -, rfl⟩ | ⟨l, p, rfl⟩
    · cases hf
    · rw [deliverPayload_fsm] at hf; cases hf
  | paces _ heq =>
    rcases xferNext_cases s with ⟨hlt, -, hn⟩ | ⟨-, -, hn⟩ | ⟨-, hn⟩ <;> rw [hn] at heq
    · rw [heq]; exact ⟨fun _ => hlt, rfl, rfl⟩
    · rw [heq] at hf; cases hf
    · rw [heq, xferEnd_eq] at hf; cases hf

/-- A transfer with bytes left has sent a whole number of full chunks (R29, R131). -/
theorem TransferInv.full_chunks {b0 : Word} {l : DWord} {s : State} (h : TransferInv b0 l s)
    (hlt : s.xsSent.toNat < l.toNat) : ∃ j, s.xsSent = BitVec.ofNat 64 (128 * j) ∧ 128 * j < l.toNat := by
  have hmod : s.xsSent.toNat % 128 = 0 := h.whole.resolve_right (by rintro rfl; omega)
  have hj : 128 * (s.xsSent.toNat / 128) = s.xsSent.toNat := by omega
  exact ⟨s.xsSent.toNat / 128, by rw [hj, BitVec.ofNat_toNat, BitVec.setWidth_eq], by omega⟩

/-! ### The latch outside Pacing -/

/-- `s` with the latch at `b`. -/
def State.withLatch (b : Bool) (s : State) : State := { s with cancelLatch := b }

@[simp] theorem State.withLatch_fsm (b : Bool) (s : State) : (s.withLatch b).fsm = s.fsm := rfl
@[simp] theorem State.withLatch_ackStatus (b : Bool) (s : State) : (s.withLatch b).ackStatus = s.ackStatus := rfl
@[simp] theorem State.withLatch_rxIdx (b : Bool) (s : State) : (s.withLatch b).rxIdx = s.rxIdx := rfl
@[simp] theorem State.withLatch_xsActive (b : Bool) (s : State) : (s.withLatch b).xsActive = s.xsActive := rfl

/-- An outcome up to the latch of its next state. -/
def latchErased (o : Out) : Out :=
  match o with
  | .next t => .next (t.withLatch false)
  | .fault r => .fault r
  | .refused r => .refused r

/-- What agrees up to the latch with a next state is one that differs from it in the latch only. -/
theorem next_of_latchErased {o : Out} {t : State} (h : latchErased o = latchErased (.next t)) :
    ∃ t', o = .next t' ∧ t'.withLatch t.cancelLatch = t := by
  cases o with
  | next t' =>
    have hsame : t'.withLatch false = t.withLatch false := Host.Outcome.next.inj h
    exact ⟨t', rfl, (congrArg (State.withLatch t.cancelLatch) hsame :)⟩
  | fault r => cases h
  | refused r => cases h

/-- A ChanRead does not see the latch (R43). -/
theorem chanRead_withLatch (b : Bool) (s : State) :
    chanRead (s.withLatch b) = ((chanRead s).1, (chanRead s).2.withLatch b) := by
  rcases chanRead_cases s with ⟨d, ds, hrx, hread⟩ | ⟨hrx, hread⟩
  · rw [hread]; unfold chanRead; simp only [State.withLatch, hrx]
  · rw [hread]; unfold chanRead; simp only [State.withLatch, hrx]

/-- An error in an exchange clears the latch with its transfer, and leaves it where there is none (R30, R128). -/
theorem raiseInExchange_withLatch (b : Bool) (e : ErrCode) (info : Half) (s : State) :
    (raiseInExchange e info (s.withLatch b)).withLatch false = (raiseInExchange e info s).withLatch false := by
  rw [raiseInExchange, raiseInExchange, State.withLatch_xsActive]
  split <;> rfl

theorem latchErased_raise (b : Bool) (e : ErrCode) (info : Half) (s : State) :
    latchErased (.next (raiseInExchange e info (s.withLatch b))) = latchErased (.next (raiseInExchange e info s)) :=
  congrArg Host.Outcome.next (raiseInExchange_withLatch b e info s)

/-- What follows the read of a register does not see the latch if no value read leads to it. -/
theorem latchErased_readHeld {α : Type} (r : NamedReg) (v : Option α) {k k' : α → Out}
    (h : ∀ x, latchErased (k x) = latchErased (k' x)) :
    latchErased (readHeld r v k) = latchErased (readHeld r v k') := by
  cases v with
  | none => rfl
  | some x => exact h x

theorem latchErased_finishSingle (b : Bool) (c : Command) (s : State) :
    latchErased (finishSingle c (s.withLatch b)) = latchErased (finishSingle c s) := by
  refine latchErased_readHeld _ _ fun l => ?_
  have hdeliver (p : Payload) : latchErased (.next (deliverPayload l p (s.withLatch b))) =
      latchErased (.next (deliverPayload l p s)) := by
    cases p <;> rfl
  exact hdeliver (decodeResponse s.opcodes c l s.rxbuf)

/-- The end of an exchange does not see the latch: a chunk's goes on to Pacing with it (R121, R126). -/
theorem latchErased_finishCommand (b : Bool) (c : Command) (s : State) :
    latchErased (finishCommand c (s.withLatch b)) = latchErased (finishCommand c s) := by
  cases c
  case memoryWrite =>
    rw [finishCommand, finishCommand, State.withLatch_xsActive]
    split
    · exact latchErased_readHeld _ _ fun l => rfl
    · exact latchErased_finishSingle b .memoryWrite s
  all_goals exact latchErased_finishSingle b _ s

theorem latchErased_payloadComplete (b : Bool) (s : State) :
    latchErased (payloadComplete (s.withLatch b)) = latchErased (payloadComplete s) := by
  refine latchErased_readHeld _ _ fun q => ?_
  split
  · exact latchErased_finishCommand b _ { s with fsm := .decoded }
  · rfl

/-- Where it reads the image the block does not see the latch (R122). -/
theorem latchErased_chunkStep (b : Bool) {s : State} (hf : s.fsm = .encoding) :
    latchErased (chunkStep (s.withLatch b)) = latchErased (chunkStep s) := by
  cases hk : chunkLengthOk s.xsCurLen.toNat
  · have hbad (u : State) (hu : chunkLengthOk u.xsCurLen.toNat = false) : chunkStep u = .fault .imageReadLength := by
      rw [chunkStep, hu]; rfl
    rw [hbad s hk, hbad (s.withLatch b) hk]
  · rcases Nat.lt_or_ge s.imageSource.length s.xsCurLen.toNat with hshort | hfull
    · rw [chunkStep_of_short hk hshort, chunkStep_of_short (s := s.withLatch b) hk hshort]; rfl
    · rw [chunkStep_of_full hf hk hfull, chunkStep_of_full (s := s.withLatch b) hf hk hfull]; rfl

theorem latchErased_transmitByte (b : Bool) (s : State) :
    latchErased (.next (transmitByte (s.withLatch b))) = latchErased (.next (transmitByte s)) := by
  have htx : (s.withLatch b).txbuf[(s.withLatch b).txIdx.toNat]? = s.txbuf[s.txIdx.toNat]? := rfl
  cases hb : s.txbuf[s.txIdx.toNat]? with
  | none => unfold transmitByte; rw [htx, hb]; rfl
  | some x =>
    by_cases hmore : (s.txIdx + 1).toNat < s.txbuf.length
    · rw [transmitByte_go hb hmore, transmitByte_go (htx.trans hb) hmore]; rfl
    · rw [transmitByte_last hb hmore, transmitByte_last (htx.trans hb) hmore]; rfl

/-- The byte of a header as an instruction is its status byte (R61, R103). -/
theorem exec_decodeHeader (x : Byte) (s : State) : exec (decodeHeader x) s = .next (readStatus x s) := by
  unfold decodeHeader
  split
  · subst x; rfl
  · rfl

/-- Elsewhere the byte stays unread in the channel (log entry 11). -/
theorem readStatus_of_not_waiting {s : State} (x : Byte) (h : ¬(s.fsm = .awaitingAck ∧ s.ackStatus = none)) :
    readStatus x s = { s with chanRx := s.chanRx ++ [.byte x] } := if_neg h

theorem latchErased_readStatus (b : Bool) (x : Byte) (s : State) :
    latchErased (.next (readStatus x (s.withLatch b))) = latchErased (.next (readStatus x s)) := by
  by_cases hwaits : s.fsm = .awaitingAck ∧ s.ackStatus = none
  · obtain ⟨hf, hfirst⟩ := hwaits
    by_cases hx : x = Config.ackOk
    · rw [hx, readStatus_ackOk hf hfirst, readStatus_ackOk (s := s.withLatch b) hf hfirst]; rfl
    · rw [readStatus_of_ne hf hfirst hx, readStatus_of_ne (s := s.withLatch b) hf hfirst hx]
      exact latchErased_raise b .notAcknowledged _ { s with ackStatus := some x }
  · rw [readStatus_of_not_waiting x hwaits, readStatus_of_not_waiting (s := s.withLatch b) x hwaits]; rfl

theorem latchErased_headerStep (b : Bool) (s : State) :
    latchErased (headerStep (s.withLatch b)) = latchErased (headerStep s) := by
  rw [headerStep, headerStep, chanRead_withLatch]
  obtain ⟨d, u⟩ := chanRead s
  cases d with
  | timeout => exact latchErased_raise b .channelTimeout 0 u
  | byte x =>
    dsimp only
    rw [exec_decodeHeader, exec_decodeHeader]
    exact latchErased_readStatus b x u

theorem latchErased_readAckLen (b : Bool) (s : State) :
    latchErased (readAckLen (s.withLatch b)) = latchErased (readAckLen s) := by
  rw [readAckLen, readAckLen, chanRead_withLatch]
  obtain ⟨d, u⟩ := chanRead s
  cases d with
  | timeout => exact latchErased_raise b .channelTimeout 1 u
  | byte x =>
    dsimp only
    split
    · exact latchErased_payloadComplete b { u with ackLen := some x, fsm := .awaitingPayload, rxbuf := [], rxIdx := 0 }
    · rfl

theorem latchErased_readPayloadByte (b : Bool) (s : State) :
    latchErased (readPayloadByte (s.withLatch b)) = latchErased (readPayloadByte s) := by
  refine latchErased_readHeld _ _ fun l => ?_
  rw [chanRead_withLatch, State.withLatch_rxIdx]
  split
  · obtain ⟨d, u⟩ := chanRead s
    cases d with
    | timeout => exact latchErased_raise b .channelTimeout _ u
    | byte x =>
      dsimp only
      rw [State.withLatch_rxIdx]
      split
      · rfl
      · exact latchErased_payloadComplete b { u with rxbuf := u.rxbuf ++ [x], rxIdx := u.rxIdx + 1 }
  · exact latchErased_payloadComplete b s

/-- Outside Pacing the block's own step does not see the latch (R121). -/
theorem latchErased_blockTurn (b : Bool) {s : State} (hp : s.fsm ≠ .pacing) :
    latchErased (blockTurn (s.withLatch b)) = latchErased (blockTurn s) := by
  rw [blockTurn, blockTurn, State.withLatch_fsm, State.withLatch_ackStatus]
  split
  · rfl
  · rfl
  · exact latchErased_chunkStep b ‹_›
  · exact latchErased_transmitByte b s
  · split
    · exact latchErased_headerStep b s
    · exact latchErased_readAckLen b s
  · exact latchErased_readPayloadByte b s
  · exact latchErased_payloadComplete b s
  · exact absurd ‹_› hp

end Sys2Proof.Machine

section
open Sys2Proof Sys2Proof.Machine Sys2Proof.Spec

/-- Settles O55: no row of the block's own step sets the aggregate. -/
theorem failedChunkIsNeverForgotten : Obligations.FailedChunkIsNeverForgotten := by
  intro s t hnil hstep h
  rw [step_of_nil hnil] at hstep
  exact blockTurn_xsAllOk hstep h

/-- Settles O56: no part of the block's own step but the end of a pacing interval sees the latch. -/
theorem latchIsReadAtBoundariesOnly : Obligations.LatchIsReadAtBoundariesOnly := by
  intro s t hnil hp hstep
  rw [step_of_nil hnil] at hstep
  have hblind := latchErased_blockTurn true hp
  rw [hstep] at hblind
  obtain ⟨t', ht, hsame⟩ := next_of_latchErased hblind
  exact ⟨t', (step_of_nil (s := s.withLatch true) hnil).trans ht, hsame⟩

/-- Settles O57: the step is `xfer_abort` with bytes left, and what was sent by then is full chunks. -/
theorem abortedTransferReportsFullChunks : Obligations.AbortedTransferReportsFullChunks := by
  intro s t h hnil ha hstep hf
  rw [step_of_nil hnil] at hstep
  obtain ⟨hpacing, hresult, hallOk⟩ := blockTurn_abort (h.activeBusy ha) ha hstep hf
  obtain ⟨q, b0, l, -, -, hinv⟩ := h.transfer ha
  have hlt : s.xsSent.toNat < l.toNat := by
    by_cases hp : s.fsm = .pacing
    · rw [← hinv.total]; exact hpacing hp
    · exact hinv.unfinished hp
  obtain ⟨j, hj, hjlt⟩ := hinv.full_chunks hlt
  exact ⟨j, hj ▸ hresult, by rw [hinv.total]; exact hjlt, hallOk⟩

end

namespace Sys2Proof.Machine
open Sys2Proof Sys2Proof.Spec

/-! ### Moves along the transition table -/

/-- A next state of the outcome is in a state that the table lets `f` go to (R141). -/
def MovesFrom (f : Fsm) (o : Out) : Prop := ∀ t, o = .next t → t.fsm ∈ successors f

theorem movesFrom_next {f : Fsm} {t : State} (h : t.fsm ∈ successors f) : MovesFrom f (.next t) := by
  rintro _ ⟨rfl⟩; exact h

/-- Every state may stay as it is (T26). -/
theorem mem_successors_self (f : Fsm) : f ∈ successors f := by cases f <;> decide

/-- A request that is accepted goes on from Idle, whichever of the free states it was issued in (R133). -/
theorem successors_idle_subset {f : Fsm} (h : f.busy = false) : successors .idle ⊆ successors f := by
  rcases busy_eq_false.1 h with rfl | rfl <;> decide

/-- An error of an exchange that is fatal leads to Aborted, in a transfer or outside one (R128, R146, R147). -/
theorem raiseInExchange_fsm {e : ErrCode} (he : e.fatal = true) (info : Half) (s : State) :
    (raiseInExchange e info s).fsm = .aborted := by
  unfold raiseInExchange; split <;> exact if_pos he

/-- The loop head of a transfer leads to Encoding or Idle, and to Aborted only if the latch is set (T23 to T25). -/
theorem xferNext_fsm (s : State) :
    (xferNext s).fsm = .encoding ∨ (xferNext s).fsm = .idle ∨ s.cancelLatch = true ∧ (xferNext s).fsm = .aborted := by
  rcases xferNext_cases s with ⟨-, hlatch, hn⟩ | ⟨-, -, hn⟩ | ⟨-, hn⟩ <;> rw [hn]
  · exact .inr (.inr ⟨hlatch, rfl⟩)
  · exact .inl rfl
  · rw [xferEnd_eq]; exact .inr (.inl rfl)

/-- Accepted with the latch clear, a transfer begins its first chunk or ends at once (R119, R129). -/
theorem sendImage_fsm (b0 : Word) (l : DWord) {s : State} (hlatch : s.cancelLatch = false) :
    (sendImage b0 l s).fsm = .encoding ∨ (sendImage b0 l s).fsm = .idle := by
  unfold sendImage
  split
  · rcases xferNext_fsm (xferStart b0 l s) with hf | hf | ⟨hset, -⟩
    · exact .inl hf
    · exact .inr hf
    · rw [xferStart_cancelLatch, hlatch] at hset; cases hset
  · exact .inr rfl

/-- A request whose rule starts from Idle moves along the table; one that has to wait stays (R133). -/
theorem movesFrom_issue {q : Request} {rule : State → Out} {s : State}
    (hrule : MovesFrom .idle (rule (accept q s))) : MovesFrom s.fsm (issue q rule s) := by
  cases hf : s.fsm.busy
  · rw [issue_of_free hf]; exact fun t ht => successors_idle_subset hf (hrule t ht)
  · rw [issue_of_busy hf]; exact movesFrom_next (mem_successors_self _)

/-- A rule that ends its request in Idle (T1 to T4, T6, T7, T9). -/
theorem movesFrom_idle_idle {t : State} (h : t.fsm = .idle) : MovesFrom .idle (.next t) :=
  movesFrom_next (h ▸ mem_successors_self .idle)

/-- The rule of SEND_IMAGE, and of EXECUTE of MemoryWrite (T6 to T8). -/
theorem movesFrom_idle_sendImage (b0 : Word) (l : DWord) {s : State} (hlatch : s.cancelLatch = false) :
    MovesFrom .idle (.next (sendImage b0 l s)) := by
  refine movesFrom_next ?_
  rcases sendImage_fsm b0 l hlatch with hf | hf <;> simp [hf, successors]

/-- EXECUTE is refused, begins a transfer, or goes to Transmitting (T4 to T8). -/
theorem movesFrom_execute (o : Operands) (s : State) : MovesFrom s.fsm (execExecute o s) := by
  refine movesFrom_issue ?_
  split
  · exact movesFrom_idle_idle rfl
  · exact movesFrom_idle_sendImage _ _ (by simp)
  · split
    · exact movesFrom_idle_idle rfl
    · exact movesFrom_next (by simp [successors])

/-- DECODE is refused or goes to AwaitingAck (T9, T10). -/
theorem movesFrom_decode (o : Operands) (s : State) : MovesFrom s.fsm (execDecode o s) := by
  refine movesFrom_issue ?_
  split
  · exact movesFrom_idle_idle rfl
  · exact movesFrom_next (by simp [successors])

/-- Every request moves along the table: CANCEL and STATUS stay, and the others start from Idle (R133, R141). -/
theorem movesFrom_request (q : Request) (s : State) : MovesFrom s.fsm (exec (decodeRequest q) s) := by
  unfold decodeRequest
  split <;> simp only [exec, execCrcInit, execCrcUpdate, execCrcRead, execCrcBlock, execCodecSplit32, execCodecJoin32,
    execCodecJoin16, execEncode, execSendImage, execReservedRequest]
  case h_9 => exact movesFrom_decode q.ops s
  case h_10 => exact movesFrom_execute q.ops s
  case h_11 => exact movesFrom_issue (movesFrom_idle_sendImage _ _ (by simp))
  case h_12 | h_13 => exact movesFrom_next (mem_successors_self s.fsm)
  all_goals
    refine movesFrom_issue ?_
    (repeat' split) <;> exact movesFrom_idle_idle rfl

/-- The end of an exchange leads to Idle, or in a transfer to Pacing (T21, T22). -/
theorem payloadComplete_fsm {s t : State} (h : payloadComplete s = .next t) : t.fsm = .idle ∨ t.fsm = .pacing := by
  rcases payloadComplete_cases h with ⟨p, -, rfl⟩ | ⟨l, p, rfl⟩
  · exact .inr rfl
  · exact .inl (deliverPayload_fsm l p _)

/-- The block's own step moves along the table (T11 to T25). -/
theorem movesFrom_blockTurn (s : State) : MovesFrom s.fsm (blockTurn s) := by
  intro t h
  cases blockTurn_cases h with
  | waits _ heq => rw [heq]; exact mem_successors_self s.fsm
  | short hf _ _ heq => rw [heq, hf, xferAbort_eq]; simp [successors, ErrCode.fatal]
  | chunk hf _ _ heq => rw [heq, hf]; simp [successors]
  | writes hf heq =>
    obtain ⟨tx, i, f, hwrite, hnext⟩ := transmitByte_frame s
    rw [heq, hwrite, hf]
    rcases hnext with rfl | rfl <;> simp [hf, successors]
  | raises hf ds n a e info _ hfatal heq =>
    rw [heq, raiseInExchange_fsm hfatal]
    rcases hf with hf | hf <;> simp [hf, successors]
  | acknowledged _ _ _ _ _ heq => rw [heq]; exact mem_successors_self s.fsm
  | header hf _ _ _ _ _ heq => rw [heq, hf]; simp [successors]
  | payload _ _ _ _ _ heq => rw [heq]; exact mem_successors_self s.fsm
  | decodes hf _ _ _ _ _ _ heq =>
    rcases payloadComplete_fsm heq with ht | ht <;> rcases hf with hf | hf | hf <;> simp [ht, hf, successors]
  | paces hf heq =>
    rw [heq, hf]
    rcases xferNext_fsm s with hn | hn | ⟨-, hn⟩ <;> simp [hn, successors]

/-- An input that is taken moves along the table, unless it is a reset (T26, T27). -/
theorem takeInput_fsm {x : Input} {s t : State} (h : takeInput x s = .next t) :
    t.fsm ∈ successors s.fsm ∨ x = .reset ∧ t.fsm = .idle := by
  cases x with
  | request q => exact .inl (movesFrom_request q s t h)
  | pass => exact .inl (movesFrom_blockTurn s t h)
  | reset => cases h; exact .inr ⟨rfl, rfl⟩
  | arrive ds | resetInputBuffer | positionImage bs | hostWrite bs => cases h; exact .inl (mem_successors_self s.fsm)

/-! ### Requests that are held, and transfers by EXECUTE -/

/-- While a request is in progress, a request other than CANCEL and STATUS changes nothing (R132, R133, log entry 7). -/
theorem exec_request_of_busy {q : Request} {s : State} (h : s.fsm.busy = true) (hcancel : q.code ≠ 0x60)
    (hstatus : q.code ≠ 0x70) : exec (decodeRequest q) s = .next s := by
  unfold decodeRequest
  split
  case h_12 hcode => exact absurd (BitVec.eq_of_toNat_eq hcode) hcancel
  case h_13 hcode => exact absurd (BitVec.eq_of_toNat_eq hcode) hstatus
  all_goals
    simp only [exec, execCrcInit, execCrcUpdate, execCrcRead, execCrcBlock, execCodecSplit32, execCodecJoin32,
      execCodecJoin16, execEncode, execDecode, execExecute, execSendImage, execReservedRequest, issue_of_busy h]

/-- The loop head of a transfer does not look at `req` (R119). -/
theorem xferNext_withReq (r : Option Request) (s : State) :
    xferNext { s with req := r } = { xferNext s with req := r } := by
  rcases xferNext_cases s with ⟨hlt, hlatch, hn⟩ | ⟨hlt, hlatch, hn⟩ | ⟨hle, hn⟩ <;> rw [hn]
  · exact xferNext_of_latch hlt hlatch
  · exact xferNext_of_more hlt hlatch
  · exact xferNext_of_none hle

/-- A transfer begins the same whichever request `req` holds (R119). -/
theorem sendImage_withReq (b0 : Word) (l : DWord) (r : Option Request) (s : State) :
    sendImage b0 l { s with req := r } = { sendImage b0 l s with req := r } := by
  unfold sendImage
  split
  · exact xferNext_withReq r (xferStart b0 l s)
  · rfl

/-- SEND_IMAGE and EXECUTE are accepted alike, but for `req` (R30, R133). -/
theorem accept_execute_eq (o : Operands) {s : State} (h : free s) :
    accept ⟨0x40, o⟩ s = { accept ⟨0x50, o⟩ s with req := some ⟨0x40, o⟩ } := by
  have hbusy := free_iff_busy_eq_false.1 h
  rw [accept_of_free hbusy, accept_of_free hbusy]; rfl

end Sys2Proof.Machine

section
open Sys2Proof Sys2Proof.Machine Sys2Proof.Spec

/-- Settles O50: an input that is taken moves along the table or is a reset, and the block's own step moves along it. -/
theorem sequencerMovesByTheTable : Obligations.SequencerMovesByTheTable := by
  intro s t h
  rcases step_cases s with ⟨x, rest, hx, -, hstep⟩ | hstep <;> rw [hstep] at h
  · refine (takeInput_fsm h).imp_right ?_
    rintro ⟨rfl, hidle⟩
    exact ⟨by rw [hx]; rfl, hidle⟩
  · exact .inl (movesFrom_blockTurn s t h)

/-- Settles O30: the frame of R55 is the one the encoder builds. -/
theorem executeStartsTransmitting : Obligations.ExecuteStartsTransmitting := fun _ _ _ hfree hc hmw hrange =>
  execExecute_of_inRange hfree hc hmw hrange

/-- Settles O31: both requests run `send_image`, which does not look at `req`. -/
theorem executeMemoryWriteIsSendImage : Obligations.ExecuteMemoryWriteIsSendImage := by
  intro o s hfree hcmd
  have hbusy := free_iff_busy_eq_false.1 hfree
  have hc : Command.ofSelector o.cmd = some .memoryWrite := by rw [hcmd]; rfl
  refine ⟨sendImage o.a32 o.len64 (accept ⟨0x50, o⟩ s), ?sendImage, ?execute⟩
  case sendImage =>
    show execSendImage o s = _
    rw [execSendImage, issue_of_free hbusy]
  case execute =>
    show execExecute o s = _
    rw [execExecute, issue_of_free hbusy, hc, ← sendImage_withReq, ← accept_execute_eq o hfree]

/-- Settles O33: the latch is ORed with `xs_active`. -/
theorem cancelSetsTheLatchOnly : Obligations.CancelSetsTheLatchOnly := by
  intro o s
  have hlatch : (s.cancelLatch || s.xsActive) = if s.xsActive then true else s.cancelLatch := by
    cases s.xsActive <;> simp
  show execCancel s = _
  rw [execCancel, hlatch]

/-- Settles O36: the request is not taken, and on the port it waits. -/
theorem otherRequestsAreHeldWhileBusy : Obligations.OtherRequestsAreHeldWhileBusy := by
  intro q s hbusy hcancel hstatus
  refine ⟨exec_request_of_busy hbusy hcancel hstatus, fun rest => step_of_waiting rfl ?waits⟩
  case waits => simpa [Input.enabled, acceptedAnyTime, hbusy] using And.intro hcancel hstatus

/-- Settles O37: the request at the head of the inputs is enabled. -/
theorem stepRunsTheIssuedRequest : Obligations.StepRunsTheIssuedRequest := by
  rintro q rest s hin (hfree | hcode)
  · exact step_of_request hfree hin
  · exact step_of_enabled hin (by rcases hcode with h | h <;> simp [Input.enabled, acceptedAnyTime, h])

/-- Settles O39: `tx_idx` counts the bytes of a frame without wrapping, so it tells the last one. -/
theorem transmittingWritesOneByte : Obligations.TransmittingWritesOneByte := by
  intro s b hnil hf hlen hb
  obtain ⟨hidx, -⟩ := List.getElem?_eq_some_iff.1 hb
  have hnext : (s.txIdx + 1).toNat = s.txIdx.toNat + 1 := by bv_omega
  rw [step_of_transmitting hnil hf, ← hnext]
  by_cases hmore : (s.txIdx + 1).toNat < s.txbuf.length
  · rw [transmitByte_go hb hmore, if_pos hmore, ← hf]
  · rw [transmitByte_last hb hmore, if_neg hmore]

/-- Settles O47: at reset no request is in progress and no error or transfer is left. -/
theorem invariantHoldsAtReset : Obligations.InvariantHoldsAtReset := inv_of_free rfl rfl rfl

end

namespace Sys2Proof.Machine

/-! ### The reset input -/

/-- A reset at the head of the inputs is taken at once, also while a request is in progress (R162). -/
theorem step_of_reset {s : State} {rest : List Input} (hin : s.inbox = .reset :: rest) :
    step s = .next (resetInput { s with inbox := rest }) := step_of_enabled hin rfl

end Sys2Proof.Machine

section
open Sys2Proof Sys2Proof.Machine Sys2Proof.Spec

/-- Settles O45: the table of R163 is the definition of the reset registers, and STATUS places their zeros. -/
theorem resetValuesOfTheRegisters : Obligations.ResetValuesOfTheRegisters := by
  refine ⟨?registers, ?chunk, ?status⟩
  case registers => rfl
  case chunk => rfl
  case status => decide

/-- Settles O46: reset is enabled in every state, and it writes the registers only. -/
theorem resetInputResetsTheRegistersOnly : Obligations.ResetInputResetsTheRegistersOnly := fun _ _ hin =>
  step_of_reset hin

end
